-- ==== Sys2Proof/Word.lean ====
section
/-!
DEFINITION. The word types of the core: the byte that holds a sample (20_memory.md R71), the 64-bit
command and response words (30_encoding.md R111, R112) and the 8-bit unit-operation select (R113).
-/

namespace Sys2Proof

/-- A byte. A sample is the two's complement reading of one, `Byte.toInt` (00_scope.md R11). -/
abbrev Byte := BitVec 8

/-- A command word or a response word (30_encoding.md R111, R112). -/
abbrev Word64 := BitVec 64

/-- A unit-operation select (30_encoding.md R113). -/
abbrev Select := BitVec 8

end Sys2Proof
end

