-- ==== Sys2Proof/Syntax.lean ====
section
/-!
DEFINITION. The operations of the core, one constructor per row of spec/opcode_table.json, and the
enumerations their operands use. The operands of a command are the numbers 30_encoding.md R114
assembles; a unit operation has no encoded operand (R113: they travel on side ports).
-/

namespace Sys2Proof

/-- TriggerMode (30_encoding.md R115). -/
inductive TrigMode where
  | normal | single | auto | stream
deriving DecidableEq, Repr, Inhabited

/-- Edge direction (30_encoding.md R115). -/
inductive Edge where
  | rising | falling
deriving DecidableEq, Repr, Inhabited

/-- The operations of the core: eleven host commands (30_encoding.md R116) and seventeen unit
operations (R117). -/
inductive Instr where
  /-- `RUN`, 43_controller_commands.md R213. -/
  | run
  /-- `STOP`, R214. -/
  | stop
  /-- `FORCE`, R215. -/
  | force
  /-- `SET_MODE`, R217. -/
  | setMode (mode : TrigMode)
  /-- `SET_DEPTH`, R216: a width in samples, 32 bits. -/
  | setDepth (samples : Nat)
  /-- `SET_RATE`, R218: a rate in hertz, 56 bits. -/
  | setRate (samplingHz : Nat)
  /-- `SET_SRC`, R220: a lane index, 8 bits. -/
  | setSrc (channel : Nat)
  /-- `SET_DELAY`, R219: a time in femtoseconds, 56 bits. -/
  | setDelay (femtoseconds : Nat)
  /-- `SET_LEVEL`, R221: a level in microvolts, 32 bits signed. -/
  | setLevel (microvolts : Int)
  /-- `SET_TYPE`, R222. -/
  | setType (edge : Edge)
  /-- `GET_RATE`, R223. -/
  | getRate
  /-- `DMX.DEMUX`, 40_demux.md R141. -/
  | dmxDemux
  /-- `RB.CONFIGURE`, 41_ring_buffer.md R151. -/
  | rbConfigure
  /-- `RB.WRITE`, R153. -/
  | rbWrite
  /-- `RB.READ`, R156. -/
  | rbRead
  /-- `TRG.SET_VERTICAL`, 42_trigger_engine.md R172. -/
  | trgSetVertical
  /-- `TRG.SET_HORIZONTAL`, R174. -/
  | trgSetHorizontal
  /-- `TRG.SET_EDGE`, R176. -/
  | trgSetEdge
  /-- `TRG.RESET`, R171. -/
  | trgReset
  /-- `TRG.PROCESS`, R178. -/
  | trgProcess
  /-- `BRG.INIT`, 45_bridge.md R281. -/
  | brgInit
  /-- `BRG.ACQ_REGION`, R283. -/
  | brgAcqRegion
  /-- `BRG.DATA_WRITTEN`, R285. -/
  | brgDataWritten
  /-- `BRG.SWITCH_IF_NEEDED`, R287. -/
  | brgSwitchIfNeeded
  /-- `RDR.OPEN`, R298. -/
  | rdrOpen
  /-- `RDR.REQUEST_AND_WAIT`, R300. -/
  | rdrRequestAndWait
  /-- `RDR.READ_HEADER`, R304. -/
  | rdrReadHeader
  /-- `RDR.READ_REGION`, R306. -/
  | rdrReadRegion
deriving DecidableEq, Repr

/-- What one encoded operation is on the hardware: a whole 64-bit word of `CMDQ`, or an 8-bit select
of the unit-operation interface (30_encoding.md R110). -/
inductive Code where
  | cmd (w : Word64)
  | uop (w : Select)
deriving DecidableEq, Repr

end Sys2Proof
end

