-- ==== Sys2Proof/Config.lean ====
section
/-!
DEFINITION. What an implementation fixes (00_scope.md R7 to R10, 92_eei_decisions.md section 6), the
turns an external schedule can take (R6), and the free values: opaque constants, so that nothing can
be proved about what they are.
-/

namespace Sys2Proof

/-- The reset configuration `CFG0` (00_scope.md R9), as numbers; `Params.valid` holds its bounds. -/
structure Cfg0 where
  W : Nat
  pos : Nat
  level : Int
  hyst : Nat
  edge : Edge
  addHoldoff : Nat
  src : Nat
  mode : TrigMode
  run : Bool
deriving DecidableEq, Repr, Inhabited

/-- The parameters of the core (00_scope.md R7, R8, R9, R10). -/
structure Params where
  /-- `BLOCK_BYTES`. -/
  blockBytes : Nat
  /-- `NCH`. -/
  nch : Nat
  /-- `MAXW`. -/
  maxw : Nat
  /-- `MINW`. -/
  minw : Nat
  /-- `FORMAT_VERSION`. -/
  formatVersion : BitVec 32
  /-- `BASE_RATE_HZ`. -/
  baseRateHz : Nat
  /-- `AUTO_TIMEOUT_SAMPLES`. -/
  autoTimeoutSamples : Nat
  /-- `BLKQ_DEPTH`. -/
  blkqDepth : Nat
  /-- `CMDQ_DEPTH`. -/
  cmdqDepth : Nat
  /-- `RSPQ_DEPTH`. -/
  rspqDepth : Nat
  /-- `FS_UV[0..3]`, microvolts. -/
  fsUv : Vector (BitVec 32) 4
  /-- `CFG0`. -/
  cfg0 : Cfg0
  /-- `EDGE_GATING`. -/
  edgeGating : Bool
  /-- `SWAP_ON_IDLE`. -/
  swapOnIdle : Bool
  /-- `STREAM_CMP_GE`. -/
  streamCmpGe : Bool
deriving DecidableEq, Repr

/-- A reader-side operation of the consumer `CON` (30_encoding.md R117). -/
inductive ReaderOp where
  | openBridge
  | requestAndWait (timeout : Nat)
  | readHeader
  | readRegion
deriving DecidableEq, Repr, Inhabited

/-- One turn of the schedule: which agent steps next, with the input it brings (00_scope.md R6,
60_exceptions.md R346, 70_reset_and_hazards.md R372). -/
inductive Turn where
  /-- `CTL` takes its next step. -/
  | ctl
  /-- `SRC` offers one block to `BLKQ`. -/
  | src (block : List Byte)
  /-- `SRC` takes a block back from `POOL`. -/
  | srcTake
  /-- `CON` issues a reader-side operation. -/
  | con (op : ReaderOp)
  /-- `CON` takes the wait step of `RDR.REQUEST_AND_WAIT` (20_memory.md R93). -/
  | conWait
  /-- `CON` goes on with a region read in progress, by one byte (20_memory.md R90). -/
  | conRead
  /-- `HOST` offers one command word to `CMDQ`. -/
  | hostCmd (w : Word64)
  /-- `HOST` dequeues a response word from `RSPQ`. -/
  | hostTake
  /-- `HOST` raises the cancellation input. -/
  | hostCancel
deriving DecidableEq, Repr, Inhabited

namespace Config

/-- The value of an unspecified byte that may differ at each read, by the number of the draw
(93_implementation_defined.md V1, V3). UNINTERPRETED; log 8. -/
opaque freeByte : Nat → Byte

/-- What a region byte that nothing has written since `BRG.INIT` holds, by the number of that
`BRG.INIT` and the address (93 V2, 10_state.md R53): unspecified, and the same at each read
(20_memory.md R78). UNINTERPRETED; log 8. -/
opaque regionByte : Nat → Nat → Byte

/-- The turn the schedule takes when none is placed, by its number (93 V6, V7, V8). UNINTERPRETED;
log 6. -/
opaque schedule : Nat → Turn

/-- `LevelCode(uv, fs)`: the trigger level code of a level in microvolts at a full scale in
microvolts (00_scope.md R8, 92 D13). UNINTERPRETED; log 5. -/
opaque levelCode : Int → Nat → Byte

/-- The byte of `BR.hdr` at reset, by its offset (10_state.md R54: unspecified). UNINTERPRETED;
log 9. -/
opaque resetHdrByte : Nat → Byte

/-- `other(x)` of a region selector that is neither 1 nor 2 (00_scope.md R12 gives it no value).
UNINTERPRETED; log 19. -/
opaque otherUnrecognised : Byte → Byte

/-- The parameters `State.reset` is built with. DESIGN CHOICE (log 2): the OPEN parameters take the
values of the spec's own program P6 (95_test_vectors.md), `AUTO_TIMEOUT_SAMPLES` that of P5, and
queue depths chosen here; `MINW`, `FORMAT_VERSION`, `BASE_RATE_HZ` and the switches are the defaults
of 00_scope.md R7, R8, R10. -/
def params : Params where
  blockBytes := 4096
  nch := 2
  maxw := 8192
  minw := 1000
  formatVersion := 1
  baseRateHz := 1000000000
  autoTimeoutSamples := 10000
  blkqDepth := 4
  cmdqDepth := 16
  rspqDepth := 4
  fsUv := #v[1000000, 1000000, 1000000, 1000000]
  cfg0 := { W := 1000, pos := 200, level := 0, hyst := 5, edge := .rising, addHoldoff := 0,
            src := 0, mode := .normal, run := false }
  edgeGating := true
  swapOnIdle := false
  streamCmpGe := false

end Config

end Sys2Proof
end

