-- ==== Sys2Proof/Machine/Layout.lean ====
section
/-!
DEFINITION. The sizes and addresses derived from the parameters (00_scope.md R7, R8; 20_memory.md
R72), and the codes of the exceptions (60_exceptions.md R326, R332).
-/

namespace Sys2Proof.Machine

/-- `MAXCH` (00_scope.md R7). -/
def maxCh : Nat := 4

/-- `WIDTH` (00_scope.md R7). -/
def width : Nat := 1

/-- `HDR_BYTES` (00_scope.md R7). -/
def hdrBytes : Nat := 72

/-- `L`, the lane length (00_scope.md R7). -/
def laneLen (p : Params) : Nat := p.blockBytes / p.nch

/-- `REGION_BYTES` (00_scope.md R7). -/
def regionBytes (p : Params) : Nat := maxCh * p.maxw * width

/-- `SEG_BYTES` (00_scope.md R7). -/
def segBytes (p : Params) : Nat := hdrBytes + 2 * regionBytes p

/-- `RATE_HZ`, the live rate per lane (00_scope.md R8); rounded down where `NCH` does not divide
`BASE_RATE_HZ` (log 4). -/
def rateHz (p : Params) : Nat := p.baseRateHz / p.nch

/-- `MAXENDS` (00_scope.md R8, 42_trigger_engine.md R190). -/
def maxEnds (p : Params) : Nat := 1 + (laneLen p - 1) / (p.minw + 1)

/-- `RegionBase` (20_memory.md R72), `none` for an unrecognised selector. -/
def regionBase (p : Params) (sel : Byte) : Option Nat :=
  if sel = 1 then some hdrBytes
  else if sel = 2 then some (hdrBytes + regionBytes p)
  else none

/-- `other` on region selectors (00_scope.md R12); a free value elsewhere (log 19). -/
def otherRegion (sel : Byte) : Byte :=
  if sel = 1 then 2 else if sel = 2 then 1 else Config.otherUnrecognised sel

/-- The channels `0 .. NCH-1`, in increasing order. -/
def channels (p : Params) : List (Fin 4) := ([0, 1, 2, 3] : List (Fin 4)).filter fun c => c.val < p.nch

/-- ConfigError codes (60_exceptions.md R326). -/
def eDepthRange : Byte := 0x01
@[inherit_doc eDepthRange] def eDepthPos : Byte := 0x02
@[inherit_doc eDepthRange] def eLevelRange : Byte := 0x03
@[inherit_doc eDepthRange] def eSrcInvalid : Byte := 0x04
@[inherit_doc eDepthRange] def eDelayRange : Byte := 0x05
@[inherit_doc eDepthRange] def eUnknownCmd : Byte := 0x06
@[inherit_doc eDepthRange] def eChannelCount : Byte := 0x07
@[inherit_doc eDepthRange] def eTrgParam : Byte := 0x08

/-- Fatal codes (60_exceptions.md R332). -/
def fRingBounds : Byte := 0x80
@[inherit_doc fRingBounds] def fRegionEnum : Byte := 0x81

end Sys2Proof.Machine
end

