-- ==== Sys2Proof/WellFormed.lean ====
section
/-!
DEFINITION. What a well-formed operation and a well-formed parameter record are. An operation's
operands fit the fields of 30_encoding.md R114; the parameters are in the domain 00_scope.md R7, R8,
R9 give (a record outside it is refused, 93_implementation_defined.md X1).
-/

namespace Sys2Proof

/-- Every operand fits its field (30_encoding.md R114). -/
def Instr.wellFormed : Instr → Bool
  | .run | .stop | .force | .setMode _ | .setType _ | .getRate => true
  | .setDepth samples => samples < 2 ^ 32
  | .setRate samplingHz => samplingHz < 2 ^ 56
  | .setSrc channel => channel < 2 ^ 8
  | .setDelay femtoseconds => femtoseconds < 2 ^ 56
  | .setLevel microvolts => -2 ^ 31 ≤ microvolts && microvolts < 2 ^ 31
  | .dmxDemux | .rbConfigure | .rbWrite | .rbRead => true
  | .trgSetVertical | .trgSetHorizontal | .trgSetEdge | .trgReset | .trgProcess => true
  | .brgInit | .brgAcqRegion | .brgDataWritten | .brgSwitchIfNeeded => true
  | .rdrOpen | .rdrRequestAndWait | .rdrReadHeader | .rdrReadRegion => true

/-- The bounds 00_scope.md R9 puts on `CFG0`. -/
def Cfg0.valid (z : Cfg0) (p : Params) : Bool :=
  p.minw ≤ z.W && z.W ≤ p.maxw && z.pos < z.W && (-128 ≤ z.level && z.level ≤ 127) &&
    z.hyst ≤ 127 && z.addHoldoff < 2 ^ 32 && z.src < p.nch

/-- The domain of the parameters: 00_scope.md R7, R8, R9 and 93 X1. The bound on the lane length is
DEDUCED from the widths of `T.i` (u32) and `RB[c].cap` (u33); log 3. -/
def Params.valid (p : Params) : Bool :=
  (p.nch == 1 || p.nch == 2 || p.nch == 4) &&
    (0 < p.blockBytes && p.blockBytes % 4 == 0 && p.blockBytes / p.nch < 2 ^ 32) &&
    (p.minw ≤ p.maxw && p.maxw < 2 ^ 32) && p.formatVersion != 0 &&
    1 ≤ p.autoTimeoutSamples && (1 ≤ p.blkqDepth && 1 ≤ p.cmdqDepth && 1 ≤ p.rspqDepth) &&
    (p.fsUv[0] != 0 && p.fsUv[1] != 0 && p.fsUv[2] != 0 && p.fsUv[3] != 0) && p.cfg0.valid p

end Sys2Proof
end

