-- ==== Sys2Proof/Decode.lean ====
section
/-!
DEFINITION. The decoder of 30_encoding.md R116 to R119, total on every word and every select, and the
encoder written from the same tables.
-/

namespace Sys2Proof

/-- The code of a TriggerMode (30_encoding.md R115). -/
def modeCode : TrigMode → Nat
  | .normal => 0
  | .single => 1
  | .auto => 2
  | .stream => 3

/-- The TriggerMode of a 2-bit code (30_encoding.md R114, R115). -/
def modeOfCode (v : BitVec 2) : TrigMode :=
  match v.toNat with
  | 0 => .normal
  | 1 => .single
  | 2 => .auto
  | _ => .stream

/-- The code of an edge direction (30_encoding.md R115). -/
def edgeCode : Edge → Nat
  | .rising => 0
  | .falling => 1

/-- The edge direction of a 1-bit code (30_encoding.md R114, R115). -/
def edgeOfCode (v : BitVec 1) : Edge := if v = 0 then .rising else .falling

/-- One row of the command table: a word `w` is the command iff `w &&& mask = value`
(30_encoding.md R116), and then `build w` is the command with its operands (R114). -/
structure CmdRow where
  value : Word64
  mask : Word64
  build : Word64 → Instr

/-- The command table (30_encoding.md R116) with the operand assembly of R114. -/
def cmdRows : List CmdRow :=
  [ ⟨0x0100000000000000, 0xFFFFFFFFFFFFFFFF, fun _ => .run⟩,
    ⟨0x0200000000000000, 0xFFFFFFFFFFFFFFFF, fun _ => .stop⟩,
    ⟨0x0300000000000000, 0xFFFFFFFFFFFFFFFF, fun _ => .force⟩,
    ⟨0x0400000000000000, 0xFFFFFFFFFFFFFFFC, fun w => .setMode (modeOfCode (w.extractLsb' 0 2))⟩,
    ⟨0x0500000000000000, 0xFFFFFFFF00000000, fun w => .setDepth (w.extractLsb' 0 32).toNat⟩,
    ⟨0x0600000000000000, 0xFF00000000000000, fun w => .setRate (w.extractLsb' 0 56).toNat⟩,
    ⟨0x0700000000000000, 0xFFFFFFFFFFFFFF00, fun w => .setSrc (w.extractLsb' 0 8).toNat⟩,
    ⟨0x0800000000000000, 0xFF00000000000000, fun w => .setDelay (w.extractLsb' 0 56).toNat⟩,
    ⟨0x0900000000000000, 0xFFFFFFFF00000000, fun w => .setLevel (w.extractLsb' 0 32).toInt⟩,
    ⟨0x0A00000000000000, 0xFFFFFFFFFFFFFFFE, fun w => .setType (edgeOfCode (w.extractLsb' 0 1))⟩,
    ⟨0x0B00000000000000, 0xFFFFFFFFFFFFFFFF, fun _ => .getRate⟩ ]

/-- The command of a word, or `none` for `UNKNOWN(w)` (30_encoding.md R118, R119). -/
def decodeCmd (w : Word64) : Option Instr :=
  (cmdRows.find? fun r => w &&& r.mask == r.value).map fun r => r.build w

/-- The unit-operation selects (30_encoding.md R117). -/
def uopRows : List (Select × Instr) :=
  [ (0x10, .dmxDemux), (0x20, .rbConfigure), (0x21, .rbWrite), (0x22, .rbRead),
    (0x30, .trgSetVertical), (0x31, .trgSetHorizontal), (0x32, .trgSetEdge), (0x33, .trgReset),
    (0x34, .trgProcess), (0x40, .brgInit), (0x41, .brgAcqRegion), (0x42, .brgDataWritten),
    (0x43, .brgSwitchIfNeeded), (0x50, .rdrOpen), (0x51, .rdrRequestAndWait),
    (0x52, .rdrReadHeader), (0x53, .rdrReadRegion) ]

/-- The unit operation of a select, or `none` where no row matches (30_encoding.md R118). -/
def decodeUop (w : Select) : Option Instr :=
  (uopRows.find? fun r => r.1 == w).map Prod.snd

/-- The decoder of both encoded interfaces (30_encoding.md R110). -/
def decode : Code → Option Instr
  | .cmd w => decodeCmd w
  | .uop w => decodeUop w

/-- A command word from its opcode and its operand field (30_encoding.md R111). -/
def cmdWord (opcode : Byte) (operand : BitVec 56) : Word64 := opcode ++ operand

/-- The encoding of an operation (30_encoding.md R111, R113, R114, R116, R117). -/
def encode : Instr → Code
  | .run => .cmd (cmdWord 0x01 0)
  | .stop => .cmd (cmdWord 0x02 0)
  | .force => .cmd (cmdWord 0x03 0)
  | .setMode mode => .cmd (cmdWord 0x04 (BitVec.ofNat 56 (modeCode mode)))
  | .setDepth samples => .cmd (cmdWord 0x05 ((BitVec.ofNat 32 samples).setWidth 56))
  | .setRate samplingHz => .cmd (cmdWord 0x06 (BitVec.ofNat 56 samplingHz))
  | .setSrc channel => .cmd (cmdWord 0x07 ((BitVec.ofNat 8 channel).setWidth 56))
  | .setDelay femtoseconds => .cmd (cmdWord 0x08 (BitVec.ofNat 56 femtoseconds))
  | .setLevel microvolts => .cmd (cmdWord 0x09 ((BitVec.ofInt 32 microvolts).setWidth 56))
  | .setType edge => .cmd (cmdWord 0x0A (BitVec.ofNat 56 (edgeCode edge)))
  | .getRate => .cmd (cmdWord 0x0B 0)
  | .dmxDemux => .uop 0x10
  | .rbConfigure => .uop 0x20
  | .rbWrite => .uop 0x21
  | .rbRead => .uop 0x22
  | .trgSetVertical => .uop 0x30
  | .trgSetHorizontal => .uop 0x31
  | .trgSetEdge => .uop 0x32
  | .trgReset => .uop 0x33
  | .trgProcess => .uop 0x34
  | .brgInit => .uop 0x40
  | .brgAcqRegion => .uop 0x41
  | .brgDataWritten => .uop 0x42
  | .brgSwitchIfNeeded => .uop 0x43
  | .rdrOpen => .uop 0x50
  | .rdrRequestAndWait => .uop 0x51
  | .rdrReadHeader => .uop 0x52
  | .rdrReadRegion => .uop 0x53

/-- The command word a command came from: `raise ConfigError(code, w)` records it
(60_exceptions.md R325). A unit operation came from no word: 0. -/
def commandWord (i : Instr) : Word64 :=
  match encode i with
  | .cmd w => w
  | .uop _ => 0

/-- A response word `{opcode with bit 7 set, value}` (30_encoding.md R112). -/
def responseWord (opcode : Byte) (value : Nat) : Word64 :=
  (opcode ||| 0x80) ++ BitVec.ofNat 56 value

/-- What the decoder reads from an instruction of `nbits` bits numbered as the table numbers them: a
row of 8 bits is a select, any other a 64-bit command word (30_encoding.md R110). -/
def decodeTableWord (nbits w : Nat) : Option Instr :=
  if nbits ≤ 8 then decode (.uop (BitVec.ofNat 8 w)) else decode (.cmd (BitVec.ofNat 64 w))

end Sys2Proof
end

