-- ==== Sys2Proof/Machine/Memory.lean ====
section
/-!
DEFINITION. Byte memory, for the ring spaces and the shared segment (20_memory.md R70, R71): a list of
(address, byte) pairs with strictly rising addresses. An address the list does not hold has no value:
what a read of it gives is a free value, supplied by `Machine/Ops.lean` (93_implementation_defined.md
V1, V2; log 8).
-/

namespace Sys2Proof.Machine

/-- Byte memory. -/
abbrev Memory := List Host.Cell

/-- The canonical form: addresses strictly rising. No byte is what an unlisted address reads as, so no
entry is redundant. -/
abbrev Memory.wf (m : Memory) : Prop := m.Pairwise fun a b => a.1 < b.1

/-- The byte at an address, or `none` where nothing has been written (20_memory.md R71). -/
def Memory.read? : Memory → Nat → Option Byte
  | [], _ => none
  | (k, v) :: rest, a => if k = a then some v else Memory.read? rest a

/-- The memory with one byte written, in canonical form. -/
def Memory.write : Memory → Nat → Byte → Memory
  | [], a, b => [(a, b)]
  | (k, v) :: rest, a, b =>
    if k < a then (k, v) :: Memory.write rest a b
    else if k = a then (a, b) :: rest
    else (a, b) :: (k, v) :: rest

/-- The memory with consecutive bytes written from an address on. -/
def Memory.writeBytes : Memory → Nat → List Byte → Memory
  | m, _, [] => m
  | m, a, b :: bs => Memory.writeBytes (m.write a b) (a + 1) bs

/-- The `n` bytes from an address on, `none` where nothing has been written (`MemRead`, 00 R12). -/
def Memory.readBytes (m : Memory) (a n : Nat) : List (Option Byte) :=
  (List.range n).map fun k => m.read? (a + k)

end Sys2Proof.Machine
end

