-- ==== Sys2Proof/Machine/Registers.lean ====
section
/-!
DEFINITION. The registers of the core, unit by unit, as plain data (10_state.md R20 to R54). Names are
the spec's; widths are those its tables give.
-/

namespace Sys2Proof.Machine

/-- The processing configuration `CFG` (10_state.md R21). -/
structure Cfg where
  W : BitVec 32
  pos : BitVec 32
  level : Byte
  hyst : Byte
  edge : Edge
  addHoldoff : BitVec 32
  src : BitVec 2
  mode : TrigMode
deriving DecidableEq, Repr

/-- A channel's ring `RB[c]` (10_state.md R23). `filled` is the spec's ghost register (R24). -/
structure Ring where
  cap : BitVec 33
  wr : BitVec 33
  mem : Memory
  filled : BitVec 33
deriving DecidableEq, Repr

/-- TriggerState (10_state.md R27, 30_encoding.md R115). -/
inductive TrgState where
  | unarmed | armedRising | armedFalling | inCapture | inHoldoff
deriving DecidableEq, Repr, Inhabited

/-- The trigger engine `T`: configuration (10_state.md R26), dynamic registers (R27), and the
transients of its last `TRG.PROCESS` (R29; `T.nEnds` is the length of `ends`). -/
structure Trg where
  level : Byte
  hyst : Byte
  lo : BitVec 10
  hi : BitVec 10
  enR : Bool
  enF : Bool
  W : BitVec 32
  pos : BitVec 32
  add : BitVec 32
  captureSamples : BitVec 32
  holdoffSamples : BitVec 33
  state : TrgState
  captureRemaining : BitVec 32
  holdoffRemaining : BitVec 33
  i : BitVec 32
  ends : List (BitVec 32)
deriving DecidableEq, Repr

/-- The sequencer phase `C.phase` (10_state.md R33). -/
inductive Phase where
  | check | cmd | wait | feed | trig | ret | swap | exit
deriving DecidableEq, Repr, Inhabited

/-- What `CTL` still has to do inside a phase whose procedures hold several shared-memory or
synchronisation steps (20_memory.md R90; log 7). Each is one step of `CTL`. -/
inductive Micro where
  /-- `phase <- P_X`. -/
  | goto (p : Phase)
  /-- `ends <- TRG.PROCESS(lane[CFG.src])` (44_controller_sequencer.md R248). -/
  | scan
  /-- `DeliverEnds(ends)` (R252). -/
  | deliverEnds (ends : List (BitVec 32))
  /-- The tail of one turn of `DeliverEnds`, with the ends that remain (R252, R254). -/
  | endDelivered (rest : List (BitVec 32))
  /-- `ServiceForce()` (R256). -/
  | serviceForce
  /-- The tail of `ServiceForce()` after its delivery (R256). -/
  | forceServed
  /-- `AutoTimeout()` (R257). -/
  | autoTimeout
  /-- The loop head of `StreamBranch()` (R258). -/
  | streamLoop
  /-- The tail of one turn of the loop of `StreamBranch()` (R258). -/
  | streamTaken
  /-- `Deliver`: the view, and the start of its copies (R250). -/
  | copyWindow (endOffset : Nat) (trig : Bool)
  /-- `Deliver`: the window of channel `c` read from its ring (R250). -/
  | readWindow (endOffset : Nat) (c : Fin 4)
  /-- `Deliver`: the bytes of channel `c`'s window from byte `k` on, still to be stored (R250). -/
  | storeBytes (c : Fin 4) (k : Nat) (bytes : List Byte)
  /-- `Deliver`: `BRG.DATA_WRITTEN` (R250). -/
  | dataWritten (trig : Bool)
  /-- `BRG.SWITCH_IF_NEEDED`: the `TryWait` (45_bridge.md R287). -/
  | swapPoll
  /-- `BRG.SWITCH_IF_NEEDED`: the flip and the publication (R287, R288). -/
  | swapPublish
  /-- `BRG.SWITCH_IF_NEEDED`: the `Release` (R287). -/
  | swapRelease
  /-- `Deliver`: `C.autoCount <- 0; C.delivered <- 1` (44 R250). -/
  | markDelivered
deriving DecidableEq, Repr

/-- The controller `C` (10_state.md R31 to R33, R36), with the model's own `todo` and `rspHold`
(log 13). -/
structure Ctl where
  runMode : Bool
  forcePending : Bool
  delivered : Bool
  halted : Bool
  cancel : Bool
  autoCount : Word64
  streamCount : Word64
  phase : Phase
  /-- The held block, the contents of the space `BLK`; `none` while no block is held. -/
  blk : Option (List Byte)
  lanes : List (List Byte)
  todo : List Micro
  rspHold : Option Word64
deriving DecidableEq, Repr

/-- The error log `ERR` (10_state.md R35). -/
structure Err where
  count : BitVec 32
  code : Byte
  cmd : Word64
  fatal : Byte
deriving DecidableEq, Repr

/-- The hardware configuration snapshot (10_state.md R46). -/
structure HwSnapshot where
  channelMode : Byte
  fullScale : Vector (BitVec 32) 4
deriving DecidableEq, Repr

/-- The processing configuration snapshot (10_state.md R47). -/
structure ProcSnapshot where
  channelCount : Byte
  channelLength : BitVec 32
  triggerChannel : Byte
  triggerMode : Byte
  triggerType : Byte
  triggerLevel : Byte
  triggerHysteresis : Byte
  triggerPosition : BitVec 32
  additionalHoldoff : BitVec 32
deriving DecidableEq, Repr

/-- The BridgeHeader (10_state.md R45). -/
structure Header where
  version : BitVec 32
  dataCapacityBytes : Word64
  maxChannelCount : Byte
  maxChannelDataLength : BitVec 32
  channelDataWidth : Byte
  activeRegion : Byte
  triggered : Byte
  hw : HwSnapshot
  proc : ProcSnapshot
  reserved : Byte
  totalAcquisitions : Word64
  droppedAcquisitions : Word64
deriving DecidableEq, Repr

/-- The bridge writer's private registers `BW` (10_state.md R50, R51), with the model's own ghost
`swaps` (log 25). -/
structure Bw where
  shadow : Header
  filled : Bool
  reqPending : Bool
  swaps : Nat
deriving DecidableEq, Repr

/-- What is left of a region read in progress (20_memory.md R90): the address of its next byte, and how
many bytes follow that one. -/
structure RegionCursor where
  addr : Nat
  more : Nat
deriving DecidableEq, Repr

/-- The reader's registers `BR` (10_state.md R54), with the model's own `waiting`, `reading` and ghost
`inWindow` (log 16). -/
structure Br where
  isOpen : Bool
  latched : Bool
  hdr : List Byte
  waiting : Bool
  reading : Option RegionCursor
  inWindow : Bool
deriving DecidableEq, Repr

/-- The side ports of the unit-operation interface (30_encoding.md R113 and the `side_ports` of the
opcode table): operands, then results (log 11). -/
structure Ports where
  n : Nat
  c : Fin 4
  cap : BitVec 33
  lane : List Byte
  len : Nat
  endOffset : BitVec 33
  level : Byte
  hyst : Byte
  W : BitVec 32
  pos : BitVec 32
  add : BitVec 32
  edge : Edge
  trig : Bool
  timeout : Nat
  dest : List Byte
  viewBase : Nat
  viewSize : Nat
  swapped : Bool
  satisfied : Bool
  bytes : List Byte
  rdrFault : Option Byte
deriving DecidableEq, Repr

end Sys2Proof.Machine
end

