-- ==== Sys2Proof/Machine/Operands.lean ====
section
/-!
DEFINITION. Operand and record forms: little-endian fields (20_memory.md R75), the 72-byte header
image and its reading (10_state.md R45 to R47), the image of `CFG` (R47), and lane selection.
-/

namespace Sys2Proof.Machine

/-- The `n` bytes of a value, least significant first (20_memory.md R75). -/
def leBytes (n v : Nat) : List Byte :=
  (List.range n).map fun k => BitVec.ofNat 8 (v / 256 ^ k)

/-- The unsigned value of bytes stored least significant first (20_memory.md R75). -/
def leNat : List Byte → Nat
  | [] => 0
  | b :: bs => b.toNat + 256 * leNat bs

/-- The field of `n` bytes at an offset of a header image. -/
def headerField (bs : List Byte) (offset n : Nat) : Nat := leNat ((bs.drop offset).take n)

/-- The 17 bytes of the hardware snapshot (10_state.md R46). -/
def hwBytes (h : HwSnapshot) : List Byte :=
  [h.channelMode] ++ leBytes 4 h.fullScale[0].toNat ++ leBytes 4 h.fullScale[1].toNat ++
    leBytes 4 h.fullScale[2].toNat ++ leBytes 4 h.fullScale[3].toNat

/-- The 18 bytes of the processing snapshot (10_state.md R47). -/
def procBytes (r : ProcSnapshot) : List Byte :=
  [r.channelCount] ++ leBytes 4 r.channelLength.toNat ++
    [r.triggerChannel, r.triggerMode, r.triggerType, r.triggerLevel, r.triggerHysteresis] ++
    leBytes 4 r.triggerPosition.toNat ++ leBytes 4 r.additionalHoldoff.toNat

/-- The 72-byte image of a header (10_state.md R45). -/
def headerBytes (h : Header) : List Byte :=
  leBytes 4 h.version.toNat ++ leBytes 8 h.dataCapacityBytes.toNat ++ [h.maxChannelCount] ++
    leBytes 4 h.maxChannelDataLength.toNat ++ [h.channelDataWidth, h.activeRegion, h.triggered] ++
    hwBytes h.hw ++ procBytes h.proc ++ [h.reserved] ++
    leBytes 8 h.totalAcquisitions.toNat ++ leBytes 8 h.droppedAcquisitions.toNat

/-- The header a 72-byte image holds: the reader's views of `BR.hdr` (45_bridge.md R304). -/
def headerOfBytes (bs : List Byte) : Header where
  version := .ofNat _ (headerField bs 0 4)
  dataCapacityBytes := .ofNat _ (headerField bs 4 8)
  maxChannelCount := .ofNat _ (headerField bs 12 1)
  maxChannelDataLength := .ofNat _ (headerField bs 13 4)
  channelDataWidth := .ofNat _ (headerField bs 17 1)
  activeRegion := .ofNat _ (headerField bs 18 1)
  triggered := .ofNat _ (headerField bs 19 1)
  hw :=
    { channelMode := .ofNat _ (headerField bs 20 1)
      fullScale := #v[.ofNat _ (headerField bs 21 4), .ofNat _ (headerField bs 25 4),
        .ofNat _ (headerField bs 29 4), .ofNat _ (headerField bs 33 4)] }
  proc :=
    { channelCount := .ofNat _ (headerField bs 37 1)
      channelLength := .ofNat _ (headerField bs 38 4)
      triggerChannel := .ofNat _ (headerField bs 42 1)
      triggerMode := .ofNat _ (headerField bs 43 1)
      triggerType := .ofNat _ (headerField bs 44 1)
      triggerLevel := .ofNat _ (headerField bs 45 1)
      triggerHysteresis := .ofNat _ (headerField bs 46 1)
      triggerPosition := .ofNat _ (headerField bs 47 4)
      additionalHoldoff := .ofNat _ (headerField bs 51 4) }
  reserved := .ofNat _ (headerField bs 55 1)
  totalAcquisitions := .ofNat _ (headerField bs 56 8)
  droppedAcquisitions := .ofNat _ (headerField bs 64 8)

/-- The image of `CFG` in a header (10_state.md R47). -/
def procImage (p : Params) (g : Cfg) : ProcSnapshot where
  channelCount := .ofNat 8 p.nch
  channelLength := g.W
  triggerChannel := g.src.setWidth 8
  triggerMode := .ofNat 8 (modeCode g.mode)
  triggerType := .ofNat 8 (edgeCode g.edge)
  triggerLevel := g.level
  triggerHysteresis := g.hyst
  triggerPosition := g.pos
  additionalHoldoff := g.addHoldoff

/-- The header `BRG.INIT` writes (45_bridge.md R281, 10_state.md R45). -/
def initHeader (p : Params) (g : Cfg) : Header where
  version := p.formatVersion
  dataCapacityBytes := .ofNat 64 (2 * regionBytes p)
  maxChannelCount := .ofNat 8 maxCh
  maxChannelDataLength := .ofNat 32 p.maxw
  channelDataWidth := .ofNat 8 width
  activeRegion := 1
  triggered := 0
  hw := { channelMode := .ofNat 8 p.nch, fullScale := p.fsUv }
  proc := procImage p g
  reserved := 0
  totalAcquisitions := 0
  droppedAcquisitions := 0

/-- The configuration registers of `CFG0` (10_state.md R21, R60). -/
def cfgOfCfg0 (z : Cfg0) : Cfg where
  W := .ofNat 32 z.W
  pos := .ofNat 32 z.pos
  level := .ofInt 8 z.level
  hyst := .ofNat 8 z.hyst
  edge := z.edge
  addHoldoff := .ofNat 32 z.addHoldoff
  src := .ofNat 2 z.src
  mode := z.mode

/-- The lanes of a block: sample `j` of lane `k` is byte `j * n + k` (40_demux.md R141, R142;
20_memory.md R74). -/
def demuxLanes (block : List Byte) (n : Nat) : List (List Byte) :=
  (List.range n).map fun k =>
    (List.range (block.length / n)).map fun j => block.getD (j * n + k) 0

/-- Lane `c` of the lanes of an iteration (10_state.md R36). -/
def laneOf (lanes : List (List Byte)) (c : Nat) : List Byte := lanes.getD c []

/-- A channel index from the 2 bits of `CFG.src`. -/
def srcChannel (g : Cfg) : Fin 4 := ⟨g.src.toNat, g.src.isLt⟩

end Sys2Proof.Machine
end

