-- ==== Sys2Proof/Machine/Ring.lean ====
section
/-!
DEFINITION. The Channel Ring Buffer of one channel (41_ring_buffer.md): configure, write, and the
cells of a window.
-/

namespace Sys2Proof.Machine

/-- A ring just configured (41_ring_buffer.md R151): no cell has a value. -/
def ringConfigured (cap : BitVec 33) : Ring := { cap := cap, wr := 0, mem := [], filled := 0 }

/-- The per-sample loop of `RB.WRITE`: sample `k` goes to cell `(wr + k) mod cap`
(41_ring_buffer.md R153); `at'` is `wr + k`. -/
def writeSamples (cap : Nat) : Memory → Nat → List Byte → Memory
  | m, _, [] => m
  | m, at', x :: xs => writeSamples cap (m.write (at' % cap) x) (at' + 1) xs

/-- `RB.WRITE` on a ring (41_ring_buffer.md R153). -/
def ringWritten (r : Ring) (lane : List Byte) : Ring :=
  { r with
    mem := writeSamples r.cap.toNat r.mem r.wr.toNat lane
    wr := .ofNat 33 ((r.wr.toNat + lane.length) % r.cap.toNat)
    filled := .ofNat 33 (min r.cap.toNat (r.filled.toNat + lane.length)) }

/-- The cell a window starts at: `(wr - endOffset - len) mod cap` (41_ring_buffer.md R156). -/
def windowStart (r : Ring) (len endOffset : Nat) : Nat :=
  (((r.wr.toNat : Int) - endOffset - len) % (r.cap.toNat : Int)).toNat

/-- The cells of a window, oldest first (41_ring_buffer.md R156); `none` for a cell never written
since the last configure (R159). -/
def windowCells (r : Ring) (len endOffset : Nat) : List (Option Byte) :=
  (List.range len).map fun k => r.mem.read? ((windowStart r len endOffset + k) % r.cap.toNat)

end Sys2Proof.Machine
end

