-- ==== Sys2Proof/Machine/Flags.lean ====
section
/-!
DEFINITION. Every condition the spec computes from registers: the comparators of the trigger engine
(42_trigger_engine.md R179 to R181, R191: exact integers), the swap condition (45_bridge.md R287), the
conditions of the sequencer (44 R257, R258), when a step of `CTL` is enabled (44 R240), and the
register codes of the two position registers (10_state.md R27, R33).
-/

namespace Sys2Proof.Machine

/-- A sample arms rising: `T.enR and s <= T.lo` (42_trigger_engine.md R179). -/
def armsRising (t : Trg) (x : Byte) : Bool := t.enR && decide (x.toInt ≤ t.lo.toInt)

/-- A sample arms falling: `T.enF and s >= T.hi` (42_trigger_engine.md R179). -/
def armsFalling (t : Trg) (x : Byte) : Bool := t.enF && decide (t.hi.toInt ≤ x.toInt)

/-- A sample crosses upward: `s > T.level` (42_trigger_engine.md R180). -/
def crossesUp (t : Trg) (x : Byte) : Bool := decide (t.level.toInt < x.toInt)

/-- A sample crosses downward: `s < T.level` (42_trigger_engine.md R181). -/
def crossesDown (t : Trg) (x : Byte) : Bool := decide (x.toInt < t.level.toInt)

/-- A swap is due: `BW.reqPending = 1 and BW.filled = 1` (45_bridge.md R287). -/
def swapDue (b : Bw) : Bool := b.reqPending && b.filled

/-- The loop condition of Stream mode (44_controller_sequencer.md R258). -/
def streamDue (p : Params) (count W : Nat) : Bool :=
  decide (W < count) || (p.streamCmpGe && decide (count = W))

/-- The Auto timeout has run out (44_controller_sequencer.md R257). -/
def autoDue (p : Params) (count : Nat) : Bool := decide (p.autoTimeoutSamples ≤ count)

/-- No step of `CTL` is enabled (44_controller_sequencer.md R240). -/
def ctlStopped (c : Ctl) : Bool := c.halted || c.phase == .exit

/-- The code of `T.state` (10_state.md R27). -/
def trgStateCode : TrgState → Nat
  | .unarmed => 0
  | .armedRising => 1
  | .armedFalling => 2
  | .inCapture => 3
  | .inHoldoff => 4

/-- The code of `C.phase` (10_state.md R33). -/
def phaseCode : Phase → Nat
  | .check => 0
  | .cmd => 1
  | .wait => 2
  | .feed => 3
  | .trig => 4
  | .ret => 5
  | .swap => 6
  | .exit => 7

end Sys2Proof.Machine
end

