-- ==== Sys2Proof/Machine/Trigger.lean ====
section
/-!
DEFINITION. The Edge Trigger Engine (42_trigger_engine.md): its configuration operations, its reset,
and the scalar scan that is the contract.
-/

namespace Sys2Proof.Machine

/-- `TRG.RESET` (42_trigger_engine.md R171). -/
def trgResetted (t : Trg) : Trg :=
  { t with state := .unarmed, captureRemaining := 0, holdoffRemaining := 0 }

/-- The edge nudge (42_trigger_engine.md R173). -/
def nudge (level hyst : Byte) : Byte :=
  if level.toInt = -128 then .ofInt 8 (-128 + hyst.toNat)
  else if level.toInt = 127 then .ofInt 8 (127 - hyst.toNat)
  else level

/-- The accepting path of `TRG.SET_VERTICAL` (42_trigger_engine.md R172). -/
def trgVertical (t : Trg) (level hyst : Byte) : Trg :=
  trgResetted
    { t with
      hyst := hyst
      level := nudge level hyst
      lo := .ofInt 10 ((nudge level hyst).toInt - hyst.toNat)
      hi := .ofInt 10 ((nudge level hyst).toInt + hyst.toNat) }

/-- The accepting path of `TRG.SET_HORIZONTAL` (42_trigger_engine.md R174). -/
def trgHorizontal (t : Trg) (W pos add : BitVec 32) : Trg :=
  trgResetted
    { t with
      W := W
      pos := pos
      add := add
      captureSamples := W - pos
      holdoffSamples := .ofNat 33 (W.toNat - (W - pos).toNat + add.toNat) }

/-- `TRG.SET_EDGE` (42_trigger_engine.md R176). -/
def trgEdge (gating : Bool) (t : Trg) (edge : Edge) : Trg :=
  trgResetted
    { t with
      enR := if gating then edge == .rising else true
      enF := if gating then edge == .falling else true }

/-- `ConsumeCapture(i)` (42_trigger_engine.md R183): the engine after the sample, and whether the
capture ended on it. -/
def consumeCapture (t : Trg) : Trg × Bool :=
  if t.captureRemaining - 1 = 0 then
    if t.holdoffSamples ≠ 0 then
      ({ t with captureRemaining := 0, state := .inHoldoff,
                holdoffRemaining := t.holdoffSamples }, true)
    else ({ t with captureRemaining := 0, state := .unarmed }, true)
  else ({ t with captureRemaining := t.captureRemaining - 1 }, false)

/-- `BeginCapture(i)` (42_trigger_engine.md R182): the crossing sample is the first captured. -/
def beginCapture (t : Trg) : Trg × Bool :=
  consumeCapture { t with state := .inCapture, captureRemaining := t.captureSamples }

/-- `TrgStep(s, i)` (42_trigger_engine.md R178 to R185): the engine after one sample, and whether a
capture ended on it. -/
def trgStep (t : Trg) (x : Byte) : Trg × Bool :=
  match t.state with
  | .unarmed =>
    if armsRising t x then ({ t with state := .armedRising }, false)
    else if armsFalling t x then ({ t with state := .armedFalling }, false)
    else (t, false)
  | .armedRising => if crossesUp t x then beginCapture t else (t, false)
  | .armedFalling => if crossesDown t x then beginCapture t else (t, false)
  | .inCapture => consumeCapture t
  | .inHoldoff =>
    if t.holdoffRemaining - 1 = 0 then ({ t with holdoffRemaining := 0, state := .unarmed }, false)
    else ({ t with holdoffRemaining := t.holdoffRemaining - 1 }, false)

/-- The scan of `TRG.PROCESS` from index `i` on (42_trigger_engine.md R178): the engine after the
lane, and the capture-end indices, each exclusive: `i + 1` for a capture that ends on sample `i`
(R183, R186). -/
def trgScan : Trg → Nat → List Byte → Trg × List (BitVec 32)
  | t, _, [] => (t, [])
  | t, i, x :: xs =>
    let (t', ended) := trgStep t x
    let (t'', ends) := trgScan t' (i + 1) xs
    (t'', if ended then .ofNat 32 (i + 1) :: ends else ends)

/-- `TRG.PROCESS` (42_trigger_engine.md R178), leaving `T.i` at the lane length and the result in
`T.ends` (10_state.md R29, R34). -/
def trgProcessed (t : Trg) (lane : List Byte) : Trg :=
  { (trgScan t 0 lane).1 with i := .ofNat 32 lane.length, ends := (trgScan t 0 lane).2 }

end Sys2Proof.Machine
end

