-- ==== Sys2Proof/Machine/State.lean ====
section
/-!
DEFINITION. The whole state of the core as plain data (10_state.md R20), the reasons a step can stop,
and the state after reset (70_reset_and_hazards.md R360, 10_state.md R60).
-/

namespace Sys2Proof.Machine

/-- The state of the machine (10_state.md R20). `par`, `segGen` and the last five
fields are the model's own. -/
structure State where
  /-- The parameters (00_scope.md R7 to R10); no step changes them (log 1). -/
  par : Params
  cfg : Cfg
  rb : Vector Ring 4
  trg : Trg
  c : Ctl
  err : Err
  bw : Bw
  /-- The shared segment `SEG`: header at 0, RegionA and RegionB from 72 (20_memory.md R72). -/
  seg : Memory
  /-- How many times `BRG.INIT` has made the regions anew: it names the unspecified bytes they hold
  (log 8). -/
  segGen : Nat
  semReq : Nat
  semResp : Nat
  br : Br
  blkq : List (List Byte)
  pool : List (List Byte)
  cmdq : List Word64
  rspq : List Word64
  /-- The side ports of the unit-operation interface (30_encoding.md R113; log 11). -/
  port : Ports
  /-- The select presented at the unit-operation interface for direct issue (log 12). -/
  uop : Option Select
  /-- The turns placed, to be taken in order before the free schedule (log 6). -/
  agenda : List Turn
  /-- How many turns have been drawn from the free schedule (log 6). -/
  turnNo : Nat
  /-- How many free bytes have been drawn (log 8). -/
  free : Nat
deriving DecidableEq, Repr

/-- Why the machine stops with a fault. -/
inductive Fault where
  /-- A region access outside the segment, addresses the spec says do not exist (20_memory.md R79: no
  operation of the assembled core forms one). Raised by a region store of `Deliver` and by
  a byte read of `RDR.READ_REGION` in a state whose window width or header exceeds the region. Safe;
  log 20. -/
  | segBounds
deriving DecidableEq, Repr

/-- Why the model gives a step no meaning. -/
inductive Refusal where
  /-- An arm of `exec` without a meaning. No arm is left so. Safe. -/
  | notModelled (mnemonic : String)
  /-- A select that matches no row of 30_encoding.md R117 was presented: a decoder refuses it (R118,
  93 X5). Raised by the unit-operation interface. Safe. -/
  | badSelect (w : Select)
  /-- The parameters are outside the domain of 00_scope.md R7 to R9 (93 X1). Raised by every step.
  Safe; log 3. -/
  | paramsOutOfDomain
  /-- `RDR.OPEN` by a reader that has a request outstanding: outside the contract (45_bridge.md R310,
  93 X2). Safe; log 22. -/
  | reopenOutstanding
  /-- `RB.CONFIGURE` with capacity 0, outside the operand's stated range (41_ring_buffer.md R151), or
  `RB.WRITE` of samples into a ring of capacity 0 (no remainder modulo 0, 00_scope.md R11). Safe;
  log 21. -/
  | capacityZero
deriving DecidableEq, Repr

/-- The trigger engine before reset configures it; every register of it is then written. -/
def blankTrg : Trg where
  level := 0
  hyst := 0
  lo := 0
  hi := 0
  enR := false
  enF := false
  W := 0
  pos := 0
  add := 0
  captureSamples := 0
  holdoffSamples := 0
  state := .unarmed
  captureRemaining := 0
  holdoffRemaining := 0
  i := 0
  ends := []

/-- The engine after reset: the three configuring operations with the values of `CFG0`
(70_reset_and_hazards.md R360, 10_state.md R26). -/
def resetTrg (p : Params) : Trg :=
  let g := cfgOfCfg0 p.cfg0
  trgEdge p.edgeGating (trgHorizontal (trgVertical blankTrg g.level g.hyst) g.W g.pos g.addHoldoff)
    g.edge

/-- The capacity of every ring after reset: `CFG0.W + L` (10_state.md R23, R60). -/
def resetCap (p : Params) : BitVec 33 := .ofNat 33 (p.cfg0.W + laneLen p)

/-- The side ports after reset. DESIGN CHOICE, every one of them (log 11): no rule gives a side port a
reset value. `cap`, `level`, `hyst`, `W`, `pos`, `add` and `edge` hold what `Reset()` last passes
(70_reset_and_hazards.md R360). The other operands are no value that `Reset()` leaves behind: `n` is
`NCH`; `c` is 0, although `Reset()` last passes `NCH - 1`; `lane`, `len`, `endOffset`, `trig` and
`timeout`, which it never passes, are empty, 0 or false. The results are empty, 0, false or none. -/
def resetPorts (p : Params) : Ports :=
  let g := cfgOfCfg0 p.cfg0
  { n := p.nch, c := 0, cap := resetCap p, lane := [], len := 0, endOffset := 0, level := g.level,
    hyst := g.hyst, W := g.W, pos := g.pos, add := g.addHoldoff, edge := g.edge, trig := false,
    timeout := 0, dest := [], viewBase := 0, viewSize := 0, swapped := false, satisfied := false,
    bytes := [], rdrFault := none }

/-- `Reset()` for a parameter record (70_reset_and_hazards.md R360, 10_state.md R60). -/
def State.resetOf (p : Params) : State where
  par := p
  cfg := cfgOfCfg0 p.cfg0
  rb := .replicate 4 (ringConfigured (resetCap p))
  trg := resetTrg p
  c :=
    { runMode := p.cfg0.run, forcePending := false, delivered := false, halted := false,
      cancel := false, autoCount := 0, streamCount := 0, phase := .check, blk := none, lanes := [],
      todo := [], rspHold := none }
  err := { count := 0, code := 0, cmd := 0, fatal := 0 }
  bw := { shadow := initHeader p (cfgOfCfg0 p.cfg0), filled := false, reqPending := false, swaps := 0 }
  seg := Memory.writeBytes [] 0 (headerBytes (initHeader p (cfgOfCfg0 p.cfg0)))
  segGen := 0
  semReq := 0
  semResp := 0
  br :=
    { isOpen := false, latched := false, hdr := (List.range 72).map Config.resetHdrByte,
      waiting := false, reading := none, inWindow := false }
  blkq := []
  pool := []
  cmdq := []
  rspq := []
  port := resetPorts p
  uop := none
  agenda := []
  turnNo := 0
  free := 0

/-- The machine right after reset, with the parameters of `Config.params` (log 2). -/
def State.reset : State := State.resetOf Config.params

end Sys2Proof.Machine
end

