-- ==== Sys2Proof/Machine/Ops.lean ====
section
/-!
DEFINITION. The shared operations over the state: the two exception entries (60_exceptions.md R325,
R330; there is no return, R344), the semaphore primitives (20_memory.md R91 to R93), free values, the
ring, trigger, bridge-writer and bridge-reader operations that the meanings, the sequencer and the
agents call.
-/

namespace Sys2Proof.Machine

/-- What an operation that may stop answers: a result and the state, the state after a Fatal that
abandoned it (00_scope.md R12), a fault or a refusal of the model. -/
inductive Res (α : Type) where
  | ok (a : α) (s : State)
  | fatal (s : State)
  | fault (r : Fault)
  | refused (r : Refusal)

/-- The outcome of a step whose whole work is an operation: a Fatal is taken, so the machine has a
next state (60_exceptions.md R330). -/
def Res.outcome {α : Type} (k : α → State → State) : Res α → Host.Outcome State Fault Refusal
  | .ok a s => .next (k a s)
  | .fatal s => .next s
  | .fault r => .fault r
  | .refused r => .refused r

/-! ### Exceptions -/

/-- `raise ConfigError(code, cmd)` (60_exceptions.md R325). -/
def raiseConfigError (code : Byte) (cmd : Word64) (s : State) : State :=
  { s with err := { s.err with count := s.err.count + 1, code := code, cmd := cmd } }

/-- `raise Fatal(code)` (60_exceptions.md R330). -/
def raiseFatal (code : Byte) (s : State) : State :=
  { s with err := { s.err with fatal := code }, c := { s.c with halted := true } }

/-! ### Free values -/

/-- Bytes with every unspecified position filled by a free value, the draws numbered from `n`
(93_implementation_defined.md V1, V3: each position independently, at each read anew; log 8). -/
def fillFree (n : Nat) (cells : List (Option Byte)) : List Byte :=
  cells.mapIdx fun k b => b.getD (Config.freeByte (n + k))

/-- The state after `n` draws. -/
def drawn (n : Nat) (s : State) : State := { s with free := s.free + n }

/-! ### Semaphores -/

/-- `Release` (20_memory.md R91). -/
def semRelease (n : Nat) : Nat := n + 1

/-- `TryWait` (20_memory.md R92): whether the count was taken, and the count after. -/
def semTryWait (n : Nat) : Bool × Nat := if 0 < n then (true, n - 1) else (false, n)

/-! ### Rings -/

/-- The state with one ring replaced. -/
def withRing (c : Fin 4) (r : Ring) (s : State) : State := { s with rb := s.rb.set c r }

/-- `RB.CONFIGURE` (41_ring_buffer.md R151), for a capacity in the operand's range. -/
def configureRing (cap : BitVec 33) (c : Fin 4) (s : State) : State :=
  withRing c (ringConfigured cap) s

/-- `RB.CONFIGURE` of every channel of a list, in order (43_controller_commands.md R216). -/
def configureRings (cap : BitVec 33) (cs : List (Fin 4)) (s : State) : State :=
  cs.foldl (fun t c => configureRing cap c t) s

/-- `RB.WRITE` (41_ring_buffer.md R153). -/
def writeRing (c : Fin 4) (lane : List Byte) (s : State) : Res Unit :=
  if s.rb[c].cap = 0 ∧ lane ≠ [] then .refused .capacityZero
  else .ok () (withRing c (ringWritten s.rb[c] lane) s)

/-- `RB.READ` (41_ring_buffer.md R156, R158, R159). -/
def readRing (c : Fin 4) (len endOffset : Nat) (s : State) : Res (List Byte) :=
  if s.rb[c].cap.toNat < len + endOffset then .fatal (raiseFatal fRingBounds s)
  else .ok (fillFree s.free (windowCells s.rb[c] len endOffset)) (drawn len s)

/-! ### Lane Demultiplexer -/

/-- The bytes of the space `BLK`: `BLOCK_BYTES` of them, unspecified where no block is held
(20_memory.md R70, 10_state.md R36; log 23). -/
def blkCells (s : State) : List (Option Byte) :=
  (List.range s.par.blockBytes).map fun a => (s.c.blk.getD [])[a]?

/-- `DMX.DEMUX` (40_demux.md R141, R143). The lanes stand in `C.lanes`. DESIGN CHOICE (log 15): R142
says that where they are stored is not architectural. -/
def demux (n : Nat) (s : State) : State :=
  if n = 1 ∨ n = 2 ∨ n = 4 then
    { drawn s.par.blockBytes s with
      c := { s.c with lanes := demuxLanes (fillFree s.free (blkCells s)) n } }
  else raiseConfigError eChannelCount 0 s

/-! ### Trigger engine -/

/-- The state with the engine replaced. -/
def withTrg (t : Trg) (s : State) : State := { s with trg := t }

/-- `TRG.RESET` (42_trigger_engine.md R171). -/
def resetEngine (s : State) : State := withTrg (trgResetted s.trg) s

/-- `TRG.SET_VERTICAL` (42_trigger_engine.md R172). -/
def setVertical (level hyst : Byte) (s : State) : State :=
  if 127 < hyst.toNat then raiseConfigError eTrgParam 0 s
  else withTrg (trgVertical s.trg level hyst) s

/-- `TRG.SET_HORIZONTAL` (42_trigger_engine.md R174). -/
def setHorizontal (W pos add : BitVec 32) (s : State) : State :=
  if W = 0 ∨ W.toNat ≤ pos.toNat then raiseConfigError eTrgParam 0 s
  else withTrg (trgHorizontal s.trg W pos add) s

/-- `TRG.SET_EDGE` (42_trigger_engine.md R176). -/
def setEdge (edge : Edge) (s : State) : State := withTrg (trgEdge s.par.edgeGating s.trg edge) s

/-- `TRG.PROCESS` (42_trigger_engine.md R178). -/
def processLane (lane : List Byte) (s : State) : State := withTrg (trgProcessed s.trg lane) s

/-! ### Bridge, writer side -/

/-- A change of the processing snapshot in the shadow header (43_controller_commands.md R212). -/
def shadowProc (f : ProcSnapshot → ProcSnapshot) (s : State) : State :=
  { s with bw := { s.bw with shadow := { s.bw.shadow with proc := f s.bw.shadow.proc } } }

/-- `Publish()`: one 72-byte store of the shadow header (45_bridge.md R288). -/
def publish (s : State) : State :=
  { s with seg := s.seg.writeBytes 0 (headerBytes s.bw.shadow) }

/-- `BRG.INIT` (45_bridge.md R281). -/
def initBridge (s : State) : State :=
  publish
    { s with
      semReq := 0
      semResp := 0
      bw := { shadow := initHeader s.par s.cfg, filled := false, reqPending := false, swaps := 0 }
      seg := []
      segGen := s.segGen + 1 }

/-- The size of the view: `NCH * CFG.W * WIDTH` (45_bridge.md R283). -/
def viewSize (s : State) : Nat := s.par.nch * s.cfg.W.toNat * width

/-- `BRG.ACQ_REGION` (45_bridge.md R283): the base of the acquiring region. -/
def acqRegion (s : State) : Res Nat :=
  match regionBase s.par s.bw.shadow.activeRegion with
  | some base => .ok base s
  | none => .fatal (raiseFatal fRegionEnum s)

/-- `BRG.DATA_WRITTEN` (45_bridge.md R285). -/
def dataWritten (trig : Bool) (s : State) : State :=
  { s with
    bw :=
      { s.bw with
        filled := true
        shadow :=
          { s.bw.shadow with
            totalAcquisitions := s.bw.shadow.totalAcquisitions + 1
            droppedAcquisitions :=
              if s.bw.filled then s.bw.shadow.droppedAcquisitions + 1
              else s.bw.shadow.droppedAcquisitions
            triggered := if trig then 1 else 0 } } }

/-- `BRG.SWITCH_IF_NEEDED`, its poll: `if BW.reqPending = 0: if TryWait(SEM.req): BW.reqPending <- 1`
(45_bridge.md R287). -/
def swapPoll (s : State) : State :=
  if s.bw.reqPending then s
  else
    { s with
      semReq := (semTryWait s.semReq).2
      bw := { s.bw with reqPending := (semTryWait s.semReq).1 } }

/-- `BRG.SWITCH_IF_NEEDED`, the flip and the publication of a swap (45_bridge.md R287, R288); `swaps`
is the ghost count of R290. -/
def swapPublish (s : State) : State :=
  publish
    { s with
      bw :=
        { s.bw with
          reqPending := false
          filled := false
          swaps := s.bw.swaps + 1
          shadow :=
            { s.bw.shadow with activeRegion := otherRegion s.bw.shadow.activeRegion } } }

/-- `BRG.SWITCH_IF_NEEDED`, the response of a swap: `Release(SEM.resp)` (45_bridge.md R287). -/
def swapRelease (s : State) : State := { s with semResp := semRelease s.semResp }

/-- `BRG.SWITCH_IF_NEEDED` whole (45_bridge.md R287): whether a swap happened, and the state after. -/
def switchIfNeeded (s : State) : Bool × State :=
  if swapDue (swapPoll s).bw then (true, swapRelease (swapPublish (swapPoll s)))
  else (false, swapPoll s)

/-- The address of byte `k` of channel `c`'s window in the region at `base` (20_memory.md R73). -/
def windowAddr (s : State) (base : Nat) (c : Fin 4) (k : Nat) : Nat :=
  base + c.val * s.cfg.W.toNat + k

/-- A store of one byte into a region of the segment (45_bridge.md R284, 20_memory.md R77). -/
def storeByte (a : Nat) (b : Byte) (s : State) : Res Unit :=
  if hdrBytes ≤ a ∧ a < segBytes s.par then .ok () { s with seg := s.seg.write a b }
  else .fault .segBounds

/-- One store of the copies of `Deliver`: byte `k` of channel `c`'s window, through the view
(44_controller_sequencer.md R250). No swap falls inside a `Deliver`, so that the view is the acquiring
region of the moment (log 7). -/
def storeWindowByte (c : Fin 4) (k : Nat) (b : Byte) (s : State) : Res Unit :=
  match acqRegion s with
  | .ok base s₁ => storeByte (windowAddr s base c k) b s₁
  | .fatal s₁ => .fatal s₁
  | .fault r => .fault r
  | .refused r => .refused r

/-- The last part of `Deliver` (44_controller_sequencer.md R250). -/
def markDelivered (s : State) : State :=
  { s with c := { s.c with autoCount := 0, delivered := true } }

/-! ### Bridge, reader side -/

/-- The 72 bytes of `SEG[0..71]`; all-zero contents where nothing was published (20_memory.md R77;
log 18). -/
def publishedHeader (s : State) : List Byte :=
  (s.seg.readBytes 0 hdrBytes).map fun b => b.getD 0

/-- The published `version` is non-zero: the writer has initialised (45_bridge.md R298). -/
def bridgeUp (s : State) : Bool := headerField (publishedHeader s) 0 4 != 0

/-- `RDR.READ_HEADER` (45_bridge.md R304). -/
def readHeader (s : State) : State := { s with br := { s.br with hdr := publishedHeader s } }

/-- The step of `RDR.READ_HEADER` or `RDR.READ_REGION` is enabled: the reader is open (45_bridge.md R298)
and not waiting (20_memory.md R93). -/
def readerReady (b : Br) : Bool := b.isOpen && !b.waiting

/-- The reader is inside an operation of several steps and can issue none: it waits (20_memory.md R93) or
reads a region (R90). -/
def readerBusy (b : Br) : Bool := b.waiting || b.reading.isSome

/-- The request step of `RDR.REQUEST_AND_WAIT` (45_bridge.md R300); it ends the read window (R308). -/
def requestStep (s : State) : State :=
  { s with
    semReq := if s.br.latched then s.semReq else semRelease s.semReq
    br := { s.br with latched := true, waiting := true, inWindow := false } }

/-- The wait step of `RDR.REQUEST_AND_WAIT` (45_bridge.md R300, R302; 20_memory.md R93). -/
def waitStep (s : State) : State :=
  if 0 < s.semResp then
    { s with
      semResp := s.semResp - 1
      br := { s.br with latched := false, waiting := false, inWindow := true }
      port := { s.port with satisfied := true } }
  else
    { s with
      br := { s.br with waiting := false }
      port := { s.port with satisfied := false } }

/-- How many bytes `RDR.READ_REGION` reads (45_bridge.md R306). -/
def regionReadSize (hdr : List Byte) : Nat :=
  headerField hdr 37 1 * headerField hdr 38 4 * headerField hdr 17 1

/-- The byte at an address of a region: what was last stored there, else the unspecified byte the region
has held since `BRG.INIT` (10_state.md R53, 20_memory.md R78, 93 V2; log 8). -/
def regionByteAt (s : State) (a : Nat) : Byte :=
  (s.seg.read? a).getD (Config.regionByte s.segGen a)

/-- The reads of a region by `CON` are raced: it is outside its read window with a request outstanding,
and `CTL` may still swap onto the region and store into it, or has swapped and `CON` has not taken the
response (20_memory.md R88, R89; 70_reset_and_hazards.md R376; 93 V3: "while `CTL` may write it";
log 8). -/
def readRaces (s : State) : Bool :=
  !s.br.inWindow && s.br.latched && (!ctlStopped s.c || decide (0 < s.semResp))

/-- The base of the acquired region under a published selector (45_bridge.md R306, 20_memory.md R72);
`none` for an unrecognised one. -/
def acquiredBase (p : Params) (sel : Byte) : Option Nat :=
  if sel = 1 ∨ sel = 2 then regionBase p (otherRegion sel) else none

/-- The rest of a region read whose next byte is at `a`, with `n` bytes to go. -/
def regionCursor (a : Nat) : Nat → Option RegionCursor
  | 0 => none
  | n + 1 => some { addr := a, more := n }

/-- The first step of `RDR.READ_REGION`: the header read again (45_bridge.md R306, 20_memory.md R90). -/
def startRegionRead (s : State) : State :=
  let h := publishedHeader s
  let s₁ := readHeader s
  match acquiredBase s.par (.ofNat 8 (headerField h 18 1)) with
  | some base =>
    { s₁ with
      br := { s₁.br with reading := regionCursor base (regionReadSize h) }
      port := { s.port with bytes := [], rdrFault := none } }
  | none => { s₁ with port := { s.port with bytes := [], rdrFault := some fRegionEnum } }

/-- A byte step of `RDR.READ_REGION` (45_bridge.md R306, 20_memory.md R90): the byte of the region, or, in
a race, a free value of its own (R89). -/
def readRegionByte (r : RegionCursor) (s : State) : Res Unit :=
  if r.addr < segBytes s.par then
    let b := if readRaces s then Config.freeByte s.free else regionByteAt s r.addr
    .ok ()
      { drawn (if readRaces s then 1 else 0) s with
        br := { s.br with reading := regionCursor (r.addr + 1) r.more }
        port := { s.port with bytes := s.port.bytes ++ [b] } }
  else .fault .segBounds

end Sys2Proof.Machine
end

