-- ==== Sys2Proof/Machine/BridgeReader.lean ====
section
/-!
DEFINITION. The meanings of the bridge reader's unit operations (45_bridge.md section 2). Where the
spec says the step is not enabled, the reader stays as it is (45_bridge.md R298, 93 X4; log 14).
-/

namespace Sys2Proof.Machine

/-- `RDR.OPEN` (45_bridge.md R298): until the writer has initialised, the reader polls and waits. A
re-open with a request outstanding is refused (93 X2; log 22). -/
def execRdrOpen (s : State) : Host.Outcome State Fault Refusal :=
  if s.br.isOpen ∧ s.br.latched then .refused .reopenOutstanding
  else if bridgeUp s then .next { s with br := { s.br with isOpen := true, latched := false } }
  else .next s

/-- `RDR.REQUEST_AND_WAIT` (45_bridge.md R300): the request step, or, for a reader already waiting,
the wait step. -/
def execRdrRequestAndWait (s : State) : Host.Outcome State Fault Refusal :=
  if !s.br.isOpen then .next s
  else if s.br.waiting then .next (waitStep s)
  else .next (requestStep s)

/-- `RDR.READ_HEADER` (45_bridge.md R304). -/
def execRdrReadHeader (s : State) : Host.Outcome State Fault Refusal :=
  if readerReady s.br then .next (readHeader s) else .next s

/-- `RDR.READ_REGION` (45_bridge.md R306): the header step, or, for a reader already reading, the next
byte (20_memory.md R90). -/
def execRdrReadRegion (s : State) : Host.Outcome State Fault Refusal :=
  if readerReady s.br then
    match s.br.reading with
    | none => .next (startRegionRead s)
    | some r => (readRegionByte r s).outcome fun _ t => t
  else .next s

end Sys2Proof.Machine
end

