-- ==== Sys2Proof/Machine/BridgeWriter.lean ====
section
/-!
DEFINITION. The meanings of the bridge writer's unit operations (45_bridge.md section 1).
-/

namespace Sys2Proof.Machine

/-- `BRG.INIT` (45_bridge.md R281). -/
def execBrgInit (s : State) : Host.Outcome State Fault Refusal := .next (initBridge s)

/-- `BRG.ACQ_REGION` (45_bridge.md R283). -/
def execBrgAcqRegion (s : State) : Host.Outcome State Fault Refusal :=
  (acqRegion s).outcome fun base t =>
    { t with port := { t.port with viewBase := base, viewSize := viewSize s } }

/-- `BRG.DATA_WRITTEN` (45_bridge.md R285). -/
def execBrgDataWritten (s : State) : Host.Outcome State Fault Refusal :=
  .next (dataWritten s.port.trig s)

/-- `BRG.SWITCH_IF_NEEDED` (45_bridge.md R287). -/
def execBrgSwitchIfNeeded (s : State) : Host.Outcome State Fault Refusal :=
  .next
    { (switchIfNeeded s).2 with port := { s.port with swapped := (switchIfNeeded s).1 } }

end Sys2Proof.Machine
end

