-- ==== Sys2Proof/Machine/Commands.lean ====
section
/-!
DEFINITION. The meanings of the eleven host commands (43_controller_commands.md R213 to R223). The
word a rejected command records is its own encoding (60_exceptions.md R325).
-/

namespace Sys2Proof.Machine

/-- `RUN` (43_controller_commands.md R213). -/
def execRun (s : State) : Host.Outcome State Fault Refusal :=
  if s.c.runMode then .next s
  else
    .next
      { resetEngine s with
        c := { s.c with runMode := true, autoCount := 0, streamCount := 0 } }

/-- `STOP` (43_controller_commands.md R214). -/
def execStop (s : State) : Host.Outcome State Fault Refusal :=
  .next { s with c := { s.c with runMode := false } }

/-- `FORCE` (43_controller_commands.md R215). -/
def execForce (s : State) : Host.Outcome State Fault Refusal :=
  .next { s with c := { s.c with forcePending := true } }

/-- `SET_MODE` (43_controller_commands.md R217). -/
def execSetMode (mode : TrigMode) (s : State) : Host.Outcome State Fault Refusal :=
  .next
    (shadowProc (fun r => { r with triggerMode := .ofNat 8 (modeCode mode) })
      { s with
        cfg := { s.cfg with mode := mode }
        c := { s.c with autoCount := 0, streamCount := 0 } })

/-- `SET_DEPTH` (43_controller_commands.md R216). -/
def execSetDepth (samples : Nat) (s : State) : Host.Outcome State Fault Refusal :=
  if samples < s.par.minw ∨ s.par.maxw < samples then
    .next (raiseConfigError eDepthRange (commandWord (.setDepth samples)) s)
  else if samples ≤ s.cfg.pos.toNat then
    .next (raiseConfigError eDepthPos (commandWord (.setDepth samples)) s)
  else
    let s₁ :=
      shadowProc (fun r => { r with channelLength := .ofNat 32 samples })
        { s with cfg := { s.cfg with W := .ofNat 32 samples } }
    let s₂ := configureRings (.ofNat 33 (samples + laneLen s.par)) (channels s.par) s₁
    let s₃ := setHorizontal s₂.cfg.W s₂.cfg.pos s₂.cfg.addHoldoff s₂
    .next { s₃ with c := { s₃.c with streamCount := 0 } }

/-- `SET_RATE` (43_controller_commands.md R218): no effect. -/
def execSetRate (_samplingHz : Nat) (s : State) : Host.Outcome State Fault Refusal := .next s

/-- The position of a delay: `floor(femtoseconds * RATE_HZ / 10^15)` (43_controller_commands.md
R219). -/
def delayPos (p : Params) (femtoseconds : Nat) : Nat := femtoseconds * rateHz p / 10 ^ 15

/-- `SET_DELAY` (43_controller_commands.md R219). -/
def execSetDelay (femtoseconds : Nat) (s : State) : Host.Outcome State Fault Refusal :=
  if s.cfg.W.toNat ≤ delayPos s.par femtoseconds then
    .next (raiseConfigError eDelayRange (commandWord (.setDelay femtoseconds)) s)
  else
    let pos : BitVec 32 := .ofNat 32 (delayPos s.par femtoseconds)
    .next
      (setHorizontal s.cfg.W pos s.cfg.addHoldoff
        (shadowProc (fun r => { r with triggerPosition := pos })
          { s with cfg := { s.cfg with pos := pos } }))

/-- `SET_SRC` (43_controller_commands.md R220). -/
def execSetSrc (channel : Nat) (s : State) : Host.Outcome State Fault Refusal :=
  if s.par.nch ≤ channel then
    .next (raiseConfigError eSrcInvalid (commandWord (.setSrc channel)) s)
  else
    .next
      (resetEngine
        (shadowProc (fun r => { r with triggerChannel := .ofNat 8 channel })
          { s with cfg := { s.cfg with src := .ofNat 2 channel } }))

/-- `SET_LEVEL` (43_controller_commands.md R221). -/
def execSetLevel (microvolts : Int) (s : State) : Host.Outcome State Fault Refusal :=
  let fs := (s.par.fsUv[srcChannel s.cfg]).toNat
  if fs < 2 * microvolts.natAbs then
    .next (raiseConfigError eLevelRange (commandWord (.setLevel microvolts)) s)
  else
    let level := Config.levelCode microvolts fs
    .next
      (setVertical level s.cfg.hyst
        (shadowProc (fun r => { r with triggerLevel := level })
          { s with cfg := { s.cfg with level := level } }))

/-- `SET_TYPE` (43_controller_commands.md R222). -/
def execSetType (edge : Edge) (s : State) : Host.Outcome State Fault Refusal :=
  .next
    (setEdge edge
      (shadowProc (fun r => { r with triggerType := .ofNat 8 (edgeCode edge) })
        { s with cfg := { s.cfg with edge := edge } }))

/-- The response word of `GET_RATE` (43_controller_commands.md R223, 30_encoding.md R112). -/
def rateResponse (p : Params) : Word64 := responseWord 0x0B (rateHz p)

/-- `GET_RATE` (43_controller_commands.md R223): the response is ready, and the next step of `CTL` that
finds room on `RSPQ` enqueues it (`rspWait`): the enqueue is a step of its own, and on a full queue
`CTL` waits for it (20_memory.md R90, R98; log 13). -/
def execGetRate (s : State) : Host.Outcome State Fault Refusal :=
  .next { s with c := { s.c with rspHold := some (rateResponse s.par) } }

end Sys2Proof.Machine
end

