-- ==== Sys2Proof/Machine/Demux.lean ====
section
/-!
DEFINITION. The meaning of the Lane Demultiplexer's unit operation (40_demux.md).
-/

namespace Sys2Proof.Machine

/-- `DMX.DEMUX` on the held block, with the channel count of side port `n` (40_demux.md R141). -/
def execDmxDemux (s : State) : Host.Outcome State Fault Refusal := .next (demux s.port.n s)

end Sys2Proof.Machine
end

