-- ==== Sys2Proof/Machine/RingBuffer.lean ====
section
/-!
DEFINITION. The meanings of the Channel Ring Buffer's unit operations, with operands and results on
the side ports (41_ring_buffer.md, 30_encoding.md R113).
-/

namespace Sys2Proof.Machine

/-- `RB.CONFIGURE` (41_ring_buffer.md R151). -/
def execRbConfigure (s : State) : Host.Outcome State Fault Refusal :=
  if s.port.cap = 0 then .refused .capacityZero
  else .next (configureRing s.port.cap s.port.c s)

/-- `RB.WRITE` (41_ring_buffer.md R153). -/
def execRbWrite (s : State) : Host.Outcome State Fault Refusal :=
  (writeRing s.port.c s.port.lane s).outcome fun _ t => t

/-- `RB.READ` (41_ring_buffer.md R156). -/
def execRbRead (s : State) : Host.Outcome State Fault Refusal :=
  (readRing s.port.c s.port.len s.port.endOffset.toNat s).outcome fun d t =>
    { t with port := { t.port with dest := d } }

end Sys2Proof.Machine
end

