-- ==== Sys2Proof/Machine/TriggerEngine.lean ====
section
/-!
DEFINITION. The meanings of the Edge Trigger Engine's unit operations, with operands on the side ports
(42_trigger_engine.md, 30_encoding.md R113).
-/

namespace Sys2Proof.Machine

/-- `TRG.SET_VERTICAL` (42_trigger_engine.md R172). -/
def execTrgSetVertical (s : State) : Host.Outcome State Fault Refusal :=
  .next (setVertical s.port.level s.port.hyst s)

/-- `TRG.SET_HORIZONTAL` (42_trigger_engine.md R174). -/
def execTrgSetHorizontal (s : State) : Host.Outcome State Fault Refusal :=
  .next (setHorizontal s.port.W s.port.pos s.port.add s)

/-- `TRG.SET_EDGE` (42_trigger_engine.md R176). -/
def execTrgSetEdge (s : State) : Host.Outcome State Fault Refusal := .next (setEdge s.port.edge s)

/-- `TRG.RESET` (42_trigger_engine.md R171). -/
def execTrgReset (s : State) : Host.Outcome State Fault Refusal := .next (resetEngine s)

/-- `TRG.PROCESS` (42_trigger_engine.md R178); the ends are in `T.ends` (10_state.md R29). -/
def execTrgProcess (s : State) : Host.Outcome State Fault Refusal :=
  .next (processLane s.port.lane s)

end Sys2Proof.Machine
end

