-- ==== Sys2Proof/Machine/Dispatch.lean ====
section
/-!
DEFINITION. The meaning of every operation, one arm per constructor of Instr.
-/

namespace Sys2Proof.Machine

def exec (i : Instr) (s : State) : Host.Outcome State Fault Refusal :=
  match i with
  | .run => Sys2Proof.Machine.execRun s
  | .stop => Sys2Proof.Machine.execStop s
  | .force => Sys2Proof.Machine.execForce s
  | .setMode mode => Sys2Proof.Machine.execSetMode mode s
  | .setDepth samples => Sys2Proof.Machine.execSetDepth samples s
  | .setRate samplingHz => Sys2Proof.Machine.execSetRate samplingHz s
  | .setSrc channel => Sys2Proof.Machine.execSetSrc channel s
  | .setDelay femtoseconds => Sys2Proof.Machine.execSetDelay femtoseconds s
  | .setLevel microvolts => Sys2Proof.Machine.execSetLevel microvolts s
  | .setType edge => Sys2Proof.Machine.execSetType edge s
  | .getRate => Sys2Proof.Machine.execGetRate s
  | .dmxDemux => Sys2Proof.Machine.execDmxDemux s
  | .rbConfigure => Sys2Proof.Machine.execRbConfigure s
  | .rbWrite => Sys2Proof.Machine.execRbWrite s
  | .rbRead => Sys2Proof.Machine.execRbRead s
  | .trgSetVertical => Sys2Proof.Machine.execTrgSetVertical s
  | .trgSetHorizontal => Sys2Proof.Machine.execTrgSetHorizontal s
  | .trgSetEdge => Sys2Proof.Machine.execTrgSetEdge s
  | .trgReset => Sys2Proof.Machine.execTrgReset s
  | .trgProcess => Sys2Proof.Machine.execTrgProcess s
  | .brgInit => Sys2Proof.Machine.execBrgInit s
  | .brgAcqRegion => Sys2Proof.Machine.execBrgAcqRegion s
  | .brgDataWritten => Sys2Proof.Machine.execBrgDataWritten s
  | .brgSwitchIfNeeded => Sys2Proof.Machine.execBrgSwitchIfNeeded s
  | .rdrOpen => Sys2Proof.Machine.execRdrOpen s
  | .rdrRequestAndWait => Sys2Proof.Machine.execRdrRequestAndWait s
  | .rdrReadHeader => Sys2Proof.Machine.execRdrReadHeader s
  | .rdrReadRegion => Sys2Proof.Machine.execRdrReadRegion s

end Sys2Proof.Machine
end

