-- ==== Sys2Proof/Machine/Sequencer.lean ====
section
/-!
DEFINITION. The Acquisition Controller's sequencer (44_controller_sequencer.md) and its command drain
(43_controller_commands.md R210): what one step of `CTL` does. A step is one phase, or one micro-step
of a phase whose procedures hold several shared-memory or synchronisation steps (20_memory.md R90;
log 7).
-/

namespace Sys2Proof.Machine

/-- The state with the rest of the phase's work replaced. -/
def withTodo (todo : List Micro) (s : State) : State := { s with c := { s.c with todo := todo } }

/-- `phase <- P_X` (44_controller_sequencer.md R240). -/
def gotoPhase (p : Phase) (s : State) : State := { s with c := { s.c with phase := p } }

/-- `BRG.SWITCH_IF_NEEDED()` as micro-steps (45_bridge.md R287). -/
def swapProg : List Micro := [.swapPoll, .swapPublish]

/-- `Deliver(endOffset, trig)` as micro-steps (44_controller_sequencer.md R250). -/
def deliverProg (endOffset : Nat) (trig : Bool) : List Micro :=
  .copyWindow endOffset trig :: swapProg ++ [.markDelivered]

/-- One micro-step, already taken off the work list (44_controller_sequencer.md R248 to R258). -/
def runMicro (m : Micro) (s : State) : Host.Outcome State Fault Refusal :=
  match m with
  | .goto p => .next (gotoPhase p s)
  | .scan =>
    let s₁ := processLane (laneOf s.c.lanes (srcChannel s.cfg).val) s
    .next (withTodo (.deliverEnds s₁.trg.ends :: s.c.todo) s₁)
  | .deliverEnds [] => .next s
  | .deliverEnds (e :: es) =>
    .next
      (withTodo (deliverProg (laneLen s.par - e.toNat) true ++ .endDelivered es :: s.c.todo) s)
  | .endDelivered es =>
    if s.cfg.mode = .single then .next { s with c := { s.c with runMode := false } }
    else .next (withTodo (.deliverEnds es :: s.c.todo) s)
  | .serviceForce =>
    if s.c.forcePending then
      if s.c.delivered then .next { s with c := { s.c with forcePending := false } }
      else .next (withTodo (deliverProg 0 false ++ .forceServed :: s.c.todo) s)
    else .next s
  | .forceServed =>
    .next
      { s with
        c :=
          { s.c with
            runMode := if s.cfg.mode = .single then false else s.c.runMode
            forcePending := false } }
  | .autoTimeout =>
    if s.c.delivered then .next s
    else
      let n : Word64 := s.c.autoCount + .ofNat 64 (laneLen s.par)
      let s₁ : State := { s with c := { s.c with autoCount := n } }
      if autoDue s.par n.toNat then .next (withTodo (deliverProg 0 false ++ s.c.todo) s₁)
      else .next s₁
  | .streamLoop =>
    if streamDue s.par s.c.streamCount.toNat s.cfg.W.toNat then
      .next (withTodo (deliverProg 0 false ++ .streamTaken :: s.c.todo) s)
    else .next s
  | .streamTaken =>
    .next
      { s with
        c :=
          { s.c with
            streamCount := s.c.streamCount - s.cfg.W.setWidth 64
            todo := .streamLoop :: s.c.todo } }
  | .copyWindow endOffset trig =>
    (acqRegion s).outcome fun _ t =>
      withTodo ((channels t.par).map (.readWindow endOffset) ++ .dataWritten trig :: t.c.todo) t
  | .readWindow endOffset c =>
    (readRing c s.cfg.W.toNat endOffset s).outcome fun d t =>
      withTodo (.storeBytes c 0 d :: t.c.todo) t
  | .storeBytes _ _ [] => .next s
  | .storeBytes c k (b :: bs) =>
    (storeWindowByte c k b s).outcome fun _ t => withTodo (.storeBytes c (k + 1) bs :: t.c.todo) t
  | .dataWritten trig => .next (dataWritten trig s)
  | .swapPoll => .next (swapPoll s)
  | .swapPublish =>
    if swapDue s.bw then .next (withTodo (.swapRelease :: s.c.todo) (swapPublish s)) else .next s
  | .swapRelease => .next (swapRelease s)
  | .markDelivered => .next (markDelivered s)

/-- `P_CHECK` (44_controller_sequencer.md R241). -/
def phaseCheck (s : State) : State :=
  if s.c.cancel then gotoPhase .exit s else gotoPhase .cmd s

/-- One step of the drain of `P_CMD`: the head command executed whole, or the queue found empty
(43_controller_commands.md R210, R224). -/
def phaseCmd (s : State) : Host.Outcome State Fault Refusal :=
  match s.cmdq with
  | [] => .next (gotoPhase .wait s)
  | w :: q =>
    match decodeCmd w with
    | some i => exec i { s with cmdq := q }
    | none => .next (raiseConfigError eUnknownCmd w { s with cmdq := q })

/-- `Idle()` (44_controller_sequencer.md R243). -/
def idle (s : State) : State :=
  if s.par.swapOnIdle then withTodo (swapProg ++ [.goto .check]) s else gotoPhase .check s

/-- `P_WAIT`: the dequeue when a block is present, else the timeout (44_controller_sequencer.md
R242). -/
def phaseWait (s : State) : State :=
  match s.blkq with
  | blk :: q => { s with blkq := q, c := { s.c with blk := some blk, phase := .feed } }
  | [] => idle s

/-- `RB.WRITE` of its lane into the ring of every channel of a list (44_controller_sequencer.md
R245). -/
def feedRings : List (Fin 4) → State → Res Unit
  | [], s => .ok () s
  | c :: cs, s =>
    match writeRing c (laneOf s.c.lanes c.val) s with
    | .ok _ s₁ => feedRings cs s₁
    | .fatal s₁ => .fatal s₁
    | .fault r => .fault r
    | .refused r => .refused r

/-- `P_FEED` (44_controller_sequencer.md R245). -/
def phaseFeed (s : State) : Host.Outcome State Fault Refusal :=
  (feedRings (channels s.par)
    (demux s.par.nch { s with c := { s.c with delivered := false } })).outcome
    fun _ t => gotoPhase .trig t

/-- The work of `TriggerBranch()` (44_controller_sequencer.md R248). -/
def triggerBranch (mode : TrigMode) : List Micro :=
  [.scan, .serviceForce] ++ (if mode = .auto then [.autoTimeout] else []) ++ [.goto .ret]

/-- `P_TRIG` (44_controller_sequencer.md R247), with the count of `StreamBranch()` (R258). -/
def phaseTrig (s : State) : State :=
  if s.c.runMode then
    if s.cfg.mode = .stream then
      { s with
        c :=
          { s.c with
            streamCount := s.c.streamCount + .ofNat 64 (laneLen s.par)
            todo := [.streamLoop, .goto .ret] } }
    else withTodo (triggerBranch s.cfg.mode) s
  else gotoPhase .ret s

/-- `P_RETURN` (44_controller_sequencer.md R259): from here the block and its lanes are dead
(10_state.md R36; log 28). -/
def phaseReturn (s : State) : State :=
  { s with
    pool := s.pool ++ s.c.blk.toList
    c := { s.c with blk := none, lanes := [], phase := .swap } }

/-- `P_SWAP` (44_controller_sequencer.md R260). -/
def phaseSwap (s : State) : State := withTodo (swapProg ++ [.goto .check]) s

/-- The phase step at which no work of an earlier one is left (44_controller_sequencer.md R240). -/
def runPhase (s : State) : Host.Outcome State Fault Refusal :=
  match s.c.phase with
  | .check => .next (phaseCheck s)
  | .cmd => phaseCmd s
  | .wait => .next (phaseWait s)
  | .feed => phaseFeed s
  | .trig => .next (phaseTrig s)
  | .ret => .next (phaseReturn s)
  | .swap => .next (phaseSwap s)
  | .exit => .next s

/-- The enqueue of `GET_RATE` on `RSPQ`, for which `CTL` waits while the queue is full
(43_controller_commands.md R223, 20_memory.md R90, R98). -/
def rspWait (r : Word64) (s : State) : State :=
  if s.rspq.length < s.par.rspqDepth then
    { s with rspq := s.rspq ++ [r], c := { s.c with rspHold := none } }
  else s

/-- One step of `CTL`; none is enabled when it has halted or exited (44_controller_sequencer.md R240,
R261; 60_exceptions.md R330), and then nothing changes (log 14). -/
def ctlStep (s : State) : Host.Outcome State Fault Refusal :=
  if ctlStopped s.c then .next s
  else
    match s.c.rspHold with
    | some r => .next (rspWait r s)
    | none =>
      match s.c.todo with
      | m :: rest => runMicro m (withTodo rest s)
      | [] => runPhase s

end Sys2Proof.Machine
end

