-- ==== Sys2Proof/Machine/Agents.lean ====
section
/-!
DEFINITION. The steps of the other agents (00_scope.md R6, 60_exceptions.md R346): `SRC`, `HOST` and
`CON`. A step that is not enabled changes nothing (log 14).
-/

namespace Sys2Proof.Machine

/-- `SRC` enqueues a block of `BLOCK_BYTES` bytes when `BLKQ` is not full (00_scope.md R6, 10_state.md
R40). -/
def srcBlock (block : List Byte) (s : State) : State :=
  if block.length = s.par.blockBytes ∧ s.blkq.length < s.par.blkqDepth then
    { s with blkq := s.blkq ++ [block] }
  else s

/-- `SRC` takes a block back from `POOL` (10_state.md R40). -/
def srcTake (s : State) : State := { s with pool := s.pool.tail }

/-- `HOST` enqueues a command word when `CMDQ` is not full (10_state.md R40, 20_memory.md R98). -/
def hostCmd (w : Word64) (s : State) : State :=
  if s.cmdq.length < s.par.cmdqDepth then { s with cmdq := s.cmdq ++ [w] } else s

/-- `HOST` dequeues a response word (70_reset_and_hazards.md R372). -/
def hostTake (s : State) : State := { s with rspq := s.rspq.tail }

/-- `HOST` raises the cancellation input, which is sticky (10_state.md R31). -/
def hostCancel (s : State) : State := { s with c := { s.c with cancel := true } }

/-- The operation a turn of the consumer issues (30_encoding.md R117). -/
def readerInstr : ReaderOp → Instr
  | .openBridge => .rdrOpen
  | .requestAndWait _ => .rdrRequestAndWait
  | .readHeader => .rdrReadHeader
  | .readRegion => .rdrReadRegion

/-- The operand of a consumer's operation on its side port: only `timeout`, which nothing reads
(45_bridge.md R300). -/
def readerOperand (op : ReaderOp) (s : State) : State :=
  match op with
  | .requestAndWait timeout => { s with port := { s.port with timeout := timeout } }
  | .openBridge | .readHeader | .readRegion => s

/-- `CON` issues an operation; while it waits or reads a region it can issue none (20_memory.md R85,
R93). -/
def conIssue (op : ReaderOp) (s : State) : Host.Outcome State Fault Refusal :=
  if readerBusy s.br then .next s else exec (readerInstr op) (readerOperand op s)

/-- `CON` takes its wait step, if it is waiting (20_memory.md R93). -/
def conWait (s : State) : State := if s.br.waiting then waitStep s else s

/-- `CON` takes the next byte step of a region read in progress (20_memory.md R90). -/
def conRead (s : State) : Host.Outcome State Fault Refusal :=
  if s.br.reading.isSome then exec .rdrReadRegion s else .next s

/-- One turn of the schedule. -/
def runTurn (t : Turn) (s : State) : Host.Outcome State Fault Refusal :=
  match t with
  | .ctl => ctlStep s
  | .src block => .next (srcBlock block s)
  | .srcTake => .next (srcTake s)
  | .con op => conIssue op s
  | .conWait => .next (conWait s)
  | .conRead => conRead s
  | .hostCmd w => .next (hostCmd w s)
  | .hostTake => .next (hostTake s)
  | .hostCancel => .next (hostCancel s)

end Sys2Proof.Machine
end

