-- ==== Sys2Proof/Machine/Fetch.lean ====
section
/-!
DEFINITION. What the next step of the machine is: an operation presented at the unit-operation
interface, else the next turn of the schedule; and where an encoded operation is placed so that the
next step runs it (log 6, log 12).
-/

namespace Sys2Proof.Machine

/-- The operation is one of the reader's (30_encoding.md R117). -/
def isReaderOp : Instr → Bool
  | .rdrOpen | .rdrRequestAndWait | .rdrReadHeader | .rdrReadRegion => true
  | .run | .stop | .force | .setMode _ | .setDepth _ | .setRate _ | .setSrc _ | .setDelay _ => false
  | .setLevel _ | .setType _ | .getRate | .dmxDemux | .rbConfigure | .rbWrite | .rbRead => false
  | .trgSetVertical | .trgSetHorizontal | .trgSetEdge | .trgReset | .trgProcess => false
  | .brgInit | .brgAcqRegion | .brgDataWritten | .brgSwitchIfNeeded => false

/-- The step of an operation is enabled: the reader's by 45_bridge.md R298 and 20_memory.md R93, the
controller's by 44_controller_sequencer.md R240. -/
def uopEnabled (i : Instr) (s : State) : Bool :=
  match i with
  | .rdrOpen => bridgeUp s && s.br.reading.isNone
  | .rdrRequestAndWait => s.br.isOpen && s.br.reading.isNone
  | .rdrReadHeader => readerReady s.br && s.br.reading.isNone
  | .rdrReadRegion => readerReady s.br
  | .run | .stop | .force | .setMode _ | .setDepth _ | .setRate _ => !ctlStopped s.c
  | .setSrc _ | .setDelay _ | .setLevel _ | .setType _ | .getRate => !ctlStopped s.c
  | .dmxDemux | .rbConfigure | .rbWrite | .rbRead => !ctlStopped s.c
  | .trgSetVertical | .trgSetHorizontal | .trgSetEdge | .trgReset | .trgProcess => !ctlStopped s.c
  | .brgInit | .brgAcqRegion | .brgDataWritten | .brgSwitchIfNeeded => !ctlStopped s.c

/-- A select presented for direct issue (30_encoding.md R113, R118): it is executed when its step is
enabled, stays presented while it is not, and is refused when no row matches. -/
def uopStep (w : Select) (s : State) : Host.Outcome State Fault Refusal :=
  match decodeUop w with
  | none => .refused (.badSelect w)
  | some i => if uopEnabled i s then exec i { s with uop := none } else .next s

/-- The next turn: the first placed, else one drawn from the free schedule (log 6). -/
def nextTurn (s : State) : Turn :=
  match s.agenda with
  | t :: _ => t
  | [] => Config.schedule s.turnNo

/-- The state after the next turn has been taken off. -/
def turnTaken (s : State) : State :=
  match s.agenda with
  | _ :: rest => { s with agenda := rest }
  | [] => { s with turnNo := s.turnNo + 1 }

/-- The next step of the machine. Parameters outside their domain are refused (93 X1; log 3). -/
def nextStep (s : State) : Host.Outcome State Fault Refusal :=
  if s.par.valid then
    match s.uop with
    | some w => uopStep w s
    | none => runTurn (nextTurn s) (turnTaken s)
  else .refused .paramsOutOfDomain

/-- A command word at the head of `CMDQ`, with `CTL` in `P_CMD` and next to step. -/
def placeCommand (w : Word64) (s : State) : State :=
  { s with
    uop := none
    agenda := .ctl :: s.agenda
    cmdq := w :: s.cmdq
    c := { s.c with phase := .cmd, todo := [], rspHold := none, halted := false } }

/-- A select presented for direct issue, with the step of its agent enabled: `CTL` neither halted nor
exited, the reader open and inside no other operation. -/
def placeSelect (w : Select) (s : State) : State :=
  match decodeUop w with
  | some i =>
    if isReaderOp i then
      { s with
        uop := some w
        br :=
          { s.br with
            isOpen := s.br.isOpen || i != .rdrOpen, waiting := false, reading := none } }
    else
      { s with
        uop := some w
        c :=
          { s.c with
            halted := false
            phase := if s.c.phase = .exit then .check else s.c.phase } }
  | none => { s with uop := some w }

/-- An encoded operation placed where the next step fetches it: a row of 8 bits is a select, any other
a command word (30_encoding.md R110). -/
def placeWord (s : State) (nbits w : Nat) : State :=
  if nbits ≤ 8 then placeSelect (BitVec.ofNat 8 w) s else placeCommand (BitVec.ofNat 64 w) s

end Sys2Proof.Machine
end

