-- ==== Sys2Proof/Machine/Step.lean ====
section
/-!
DEFINITION. The step of the machine, and the state in which it next runs a given encoded operation.
-/

namespace Sys2Proof.Machine

/-- One step (`Fetch.lean`, `nextStep`). -/
def step (s : State) : Host.Outcome State Fault Refusal := nextStep s

/-- The state in which the next step fetches and runs the operation of `nbits` bits `w`
(`Fetch.lean`, `placeWord`; log 6). -/
def State.withFetchWord (s : State) (nbits w : Nat) : State := placeWord s nbits w

end Sys2Proof.Machine
end

