-- ==== Sys2Proof/Safety.lean ====
section
/-!
DEFINITION. What a sound state of the assembled core is: the invariants the spec states of its
registers, in the terms the obligations use. The assembled core is the machine with nothing presented
for direct issue at the unit-operation interface (log 12): its unit operations are those the sequencer
and the reader invoke.
-/

namespace Sys2Proof.Machine

/-- The operation is a host command (30_encoding.md R110). -/
def isCommand (i : Instr) : Bool :=
  match encode i with
  | .cmd _ => true
  | .uop _ => false

/-- The bounds of `CFG` (10_state.md R21, R22). -/
def CfgInv (s : State) : Prop :=
  s.par.minw ≤ s.cfg.W.toNat ∧ s.cfg.W.toNat ≤ s.par.maxw ∧ s.cfg.pos.toNat < s.cfg.W.toNat ∧
    s.cfg.hyst.toNat ≤ 127 ∧ s.cfg.src.toNat < s.par.nch

/-- A ring of capacity `cap` (10_state.md R23, 41_ring_buffer.md R155): cursor and count in range,
memory canonical, and exactly the cells below `filled` written. -/
def RingInv (cap : Nat) (r : Ring) : Prop :=
  r.cap.toNat = cap ∧ r.wr.toNat < cap ∧ r.filled.toNat ≤ cap ∧ Memory.wf r.mem ∧
    (∀ cell ∈ r.mem, cell.1 < r.filled.toNat) ∧
    (∀ k < r.filled.toNat, (r.mem.read? k).isSome = true) ∧
    (r.filled.toNat < cap → r.wr = r.filled)

/-- Every ring in use has capacity `CFG.W + L` (10_state.md R24). -/
def RingsInv (s : State) : Prop :=
  ∀ c : Fin 4, c.val < s.par.nch → RingInv (s.cfg.W.toNat + laneLen s.par) s.rb[c]

/-- The countdowns of the engine (10_state.md R27, R28). -/
def EngineInv (t : Trg) : Prop :=
  (t.state = .inCapture ↔ t.captureRemaining ≠ 0) ∧
    (t.state = .inHoldoff ↔ t.holdoffRemaining ≠ 0) ∧
    t.captureRemaining.toNat ≤ t.captureSamples.toNat ∧
    t.holdoffRemaining.toNat ≤ t.holdoffSamples.toNat ∧ t.captureSamples ≠ 0

/-- The engine's configuration registers are those of `CFG` (10_state.md R26, 42_trigger_engine.md
R172 to R176). -/
def EngineCfgInv (s : State) : Prop :=
  s.trg.W = s.cfg.W ∧ s.trg.pos = s.cfg.pos ∧ s.trg.add = s.cfg.addHoldoff ∧
    s.trg.hyst = s.cfg.hyst ∧ s.trg.level = nudge s.cfg.level s.cfg.hyst ∧
    s.trg.lo.toInt = s.trg.level.toInt - s.trg.hyst.toNat ∧
    s.trg.hi.toInt = s.trg.level.toInt + s.trg.hyst.toNat ∧
    s.trg.captureSamples.toNat = s.cfg.W.toNat - s.cfg.pos.toNat ∧
    s.trg.holdoffSamples.toNat = s.cfg.pos.toNat + s.cfg.addHoldoff.toNat ∧
    s.trg.enR = (!s.par.edgeGating || s.cfg.edge == .rising) ∧
    s.trg.enF = (!s.par.edgeGating || s.cfg.edge == .falling)

/-- The fields of a header that only `BRG.INIT` writes (10_state.md R45). -/
def HeaderFixed (p : Params) (h : Header) : Prop :=
  h.version = p.formatVersion ∧ h.dataCapacityBytes = .ofNat 64 (2 * regionBytes p) ∧
    h.maxChannelCount = .ofNat 8 maxCh ∧ h.maxChannelDataLength = .ofNat 32 p.maxw ∧
    h.channelDataWidth = .ofNat 8 width ∧ h.hw.channelMode = .ofNat 8 p.nch ∧
    h.hw.fullScale = p.fsUv ∧ h.reserved = 0

/-- The shadow header (10_state.md R45, R47; 45_bridge.md R289). -/
def ShadowInv (s : State) : Prop :=
  HeaderFixed s.par s.bw.shadow ∧ s.bw.shadow.proc = procImage s.par s.cfg ∧
    (s.bw.shadow.activeRegion = 1 ∨ s.bw.shadow.activeRegion = 2) ∧
    (s.bw.shadow.triggered = 0 ∨ s.bw.shadow.triggered = 1)

/-- The segment (20_memory.md R72) and the header published in it (10_state.md R45, 45_bridge.md R289,
R290: a consumer reads `total = dropped + swaps`). -/
def PublishedInv (s : State) : Prop :=
  Memory.wf s.seg ∧ (∀ cell ∈ s.seg, cell.1 < segBytes s.par) ∧
    (∀ a < hdrBytes, (s.seg.read? a).isSome = true) ∧
    HeaderFixed s.par (headerOfBytes (publishedHeader s)) ∧
    (headerOfBytes (publishedHeader s)).activeRegion = s.bw.shadow.activeRegion ∧
    (headerOfBytes (publishedHeader s)).proc.channelCount = .ofNat 8 s.par.nch ∧
    (headerOfBytes (publishedHeader s)).proc.channelLength.toNat ≤ s.par.maxw ∧
    (headerOfBytes (publishedHeader s)).totalAcquisitions =
      (headerOfBytes (publishedHeader s)).droppedAcquisitions + .ofNat 64 s.bw.swaps

/-- The acquisition count of the shadow header: `total = dropped + swaps + filled` (45_bridge.md
R290). -/
def CountInv (s : State) : Prop :=
  s.bw.shadow.totalAcquisitions =
    s.bw.shadow.droppedAcquisitions + .ofNat 64 s.bw.swaps + if s.bw.filled then 1 else 0

/-- The responses a swap in progress still has to release (45_bridge.md R287: its last step). -/
def releasesDue (s : State) : Nat := s.c.todo.count .swapRelease

/-- The handshake (45_bridge.md R310), and what the reader's flags imply of each other. Inside a swap
the response is on its way: `releasesDue` is 1 between the publication and the release. -/
def HandshakeInv (s : State) : Prop :=
  s.br.latched.toNat = s.semReq + s.bw.reqPending.toNat + s.semResp + releasesDue s ∧
    (s.br.inWindow = true → s.br.latched = false ∧ s.br.isOpen = true) ∧
    (s.br.waiting = true → s.br.latched = true) ∧ (s.br.latched = true → s.br.isOpen = true)

/-- What a micro-step still to do may carry: a window that ends inside the lane just fed
(44_controller_sequencer.md R251), of a channel in use and of at most `CFG.W` bytes (R250), capture ends
of that lane (42_trigger_engine.md R186), and a transfer to the phase after `P_TRIG` or to `P_CHECK`
(44 R247, R260). -/
def MicroOk (s : State) : Micro → Prop
  | .copyWindow endOffset _ => endOffset < laneLen s.par
  | .readWindow endOffset c => c.val < s.par.nch ∧ endOffset < laneLen s.par
  | .storeBytes c k bytes => c.val < s.par.nch ∧ k + bytes.length ≤ s.cfg.W.toNat
  | .deliverEnds ends => ∀ e ∈ ends.map BitVec.toNat, 1 ≤ e ∧ e ≤ laneLen s.par
  | .endDelivered rest => ∀ e ∈ rest.map BitVec.toNat, 1 ≤ e ∧ e ≤ laneLen s.par
  | .goto q => q = .ret ∨ q = .check
  | .dataWritten _ => True
  | .scan | .serviceForce | .forceServed | .autoTimeout | .streamLoop | .streamTaken => True
  | .swapPoll | .swapPublish | .swapRelease | .markDelivered => True

/-- The sequencer's place (44_controller_sequencer.md R240): every micro-step still to do is sound, the
lanes to be scanned are those of the block just fed (R245, R248), and a response is held only in
`P_CMD` (43_controller_commands.md R223). -/
def SequencerInv (s : State) : Prop :=
  (∀ m ∈ s.c.todo, MicroOk s m) ∧
    (s.c.phase = .trig ∨ .scan ∈ s.c.todo →
      s.c.lanes.length = s.par.nch ∧ ∀ l ∈ s.c.lanes, l.length = laneLen s.par) ∧
    (s.c.rspHold ≠ none → s.c.phase = .cmd ∧ s.c.todo = [])

/-- A region read in progress (45_bridge.md R306): the reader is open and inside no other operation, and
the bytes to come lie in the segment, beyond the header (20_memory.md R79). -/
def ReaderInv (s : State) : Prop :=
  ∀ r, s.br.reading = some r →
    s.br.isOpen = true ∧ s.br.waiting = false ∧ hdrBytes ≤ r.addr ∧ r.addr + r.more < segBytes s.par

/-- The invariant of the assembled core that has not halted. -/
def Inv (s : State) : Prop :=
  s.par.valid = true ∧ s.uop = none ∧ s.c.halted = false ∧ s.err.fatal = 0 ∧ CfgInv s ∧
    RingsInv s ∧ EngineInv s.trg ∧ EngineCfgInv s ∧ ShadowInv s ∧ PublishedInv s ∧ CountInv s ∧
    HandshakeInv s ∧ ReaderInv s ∧ SequencerInv s

/-- Every memory of the machine is in canonical form. -/
def MemoriesCanonical (s : State) : Prop := Memory.wf s.seg ∧ ∀ c : Fin 4, Memory.wf s.rb[c].mem

/-- `CTL` takes the next step, and is free to do the work of its place (44_controller_sequencer.md
R240): it has neither halted nor exited and holds no response. `rest` is what the agenda holds
after it. -/
def CtlTurn (s : State) (rest : List Turn) : Prop :=
  s.par.valid = true ∧ s.uop = none ∧ s.agenda = .ctl :: rest ∧ ctlStopped s.c = false ∧
    s.c.rspHold = none

/-- `CTL` takes the next turn and its next micro-step is `m`. -/
def AtMicro (m : Micro) (s : State) : Prop := nextTurn s = .ctl ∧ ∃ work, s.c.todo = m :: work

/-- `CTL` takes the next turn, is in its drain, and the head of `CMDQ` is the command `i`
(43_controller_commands.md R210). -/
def AtCommand (i : Instr) (s : State) : Prop :=
  nextTurn s = .ctl ∧ s.c.phase = .cmd ∧ s.c.todo = [] ∧
    ∃ w q, s.cmdq = w :: q ∧ decodeCmd w = some i

/-- The command of an opcode and a 56-bit operand, read off 30_encoding.md R114 and R116; `none` is
`UNKNOWN` (R119). -/
def tableCommand (opcode operand : Nat) : Option Instr :=
  match opcode with
  | 0x01 => if operand = 0 then some .run else none
  | 0x02 => if operand = 0 then some .stop else none
  | 0x03 => if operand = 0 then some .force else none
  | 0x04 => ([.normal, .single, .auto, .stream] : List TrigMode)[operand]?.map .setMode
  | 0x05 => if operand < 2 ^ 32 then some (.setDepth operand) else none
  | 0x06 => some (.setRate operand)
  | 0x07 => if operand < 2 ^ 8 then some (.setSrc operand) else none
  | 0x08 => some (.setDelay operand)
  | 0x09 => if operand < 2 ^ 32 then some (.setLevel (BitVec.ofNat 32 operand).toInt) else none
  | 0x0A => ([.rising, .falling] : List Edge)[operand]?.map .setType
  | 0x0B => if operand = 0 then some .getRate else none
  | _ => none

/-- What `TRG.SET_VERTICAL` makes of an engine (42_trigger_engine.md R172, R173; exact integers). -/
def VerticalSet (t t' : Trg) (level hyst : Byte) : Prop :=
  t' = { t with level := t'.level, hyst := hyst, lo := t'.lo, hi := t'.hi, state := .unarmed,
                captureRemaining := 0, holdoffRemaining := 0 } ∧
    t'.level.toInt =
      (if level.toInt = -128 then -128 + (hyst.toNat : Int)
       else if level.toInt = 127 then 127 - (hyst.toNat : Int)
       else level.toInt) ∧
    t'.lo.toInt = t'.level.toInt - hyst.toNat ∧ t'.hi.toInt = t'.level.toInt + hyst.toNat

/-- What `TRG.SET_HORIZONTAL` makes of an engine (42_trigger_engine.md R174). -/
def HorizontalSet (t t' : Trg) (W pos add : BitVec 32) : Prop :=
  t' = { t with W := W, pos := pos, add := add, captureSamples := t'.captureSamples,
                holdoffSamples := t'.holdoffSamples, state := .unarmed, captureRemaining := 0,
                holdoffRemaining := 0 } ∧
    t'.captureSamples.toNat = W.toNat - pos.toNat ∧
    t'.holdoffSamples.toNat = pos.toNat + add.toNat

/-- A stream scanned lane by lane: each capture end counted from the start of the stream, `before`
being the samples of earlier lanes (42_trigger_engine.md R187). -/
def scanLanes : Trg → Nat → List (List Byte) → Trg × List (BitVec 32)
  | t, _, [] => (t, [])
  | t, before, lane :: lanes =>
    let (t₁, ends₁) := trgScan t 0 lane
    let (t₂, ends₂) := scanLanes t₁ (before + lane.length) lanes
    (t₂, ends₁.map (fun e => e + .ofNat 32 before) ++ ends₂)

/-- A ring of capacity `cap` after the lanes of a list have been written to it since its configure
(41_ring_buffer.md R155). -/
def ringAfter (cap : BitVec 33) (lanes : List (List Byte)) : Ring :=
  lanes.foldl ringWritten (ringConfigured cap)

end Sys2Proof.Machine
end

