-- ==== Sys2Proof/Certificates/Slice0/Obligations.lean ====
section
/-!
DEFINITION. The statements about the acquisition core. Each is read off the numbered rules its
docstring names. Where a next state is written `{ s with … }`, every register, queue and byte of memory
not named in it is unchanged: that is the statement's frame.
-/

open Sys2Proof Sys2Proof.Machine

/-! ### Encoding -/

/-- No bit of an encoding is dropped: every well-formed operation comes back from its encoding
(30_encoding.md R111 to R117). -/
def Obligations.DecodeInvertsEncode : Prop :=
  ∀ i : Instr, i.wellFormed = true → decode (encode i) = some i

/-- A word or a select has one meaning: what decodes is well-formed and encodes back to the same word,
so no reserved bit is ignored (30_encoding.md R111, R116 to R118). -/
def Obligations.EncodeInvertsDecode : Prop :=
  ∀ (x : Code) (i : Instr), decode x = some i → i.wellFormed = true ∧ encode i = x

/-- The command decoder is the table of 30_encoding.md R116 with the operands of R114, total on all
words; no two rows match one word (R119). -/
def Obligations.CommandDecoderIsTheTable : Prop :=
  (∀ w : Word64,
    decodeCmd w = tableCommand (w.extractLsb' 56 8).toNat (w.extractLsb' 0 56).toNat) ∧
  cmdRows.Pairwise fun a b => ∀ w : Word64, ¬(w &&& a.mask = a.value ∧ w &&& b.mask = b.value)

/-- Words the spec writes out, and the operations they are (43_controller_commands.md R213 to R224,
30_encoding.md R117). -/
def Obligations.SpecWordsDecode : Prop :=
  decode (.cmd 0x0100000000000000) = some .run ∧
  decode (.cmd 0x05000000000007D0) = some (.setDepth 2000) ∧
  decode (.cmd 0x0400000000000001) = some (.setMode .single) ∧
  decode (.cmd 0x080000000BEBC200) = some (.setDelay 200000000) ∧
  decode (.cmd 0x090000000003D090) = some (.setLevel 250000) ∧
  decode (.cmd 0x0A00000000000001) = some (.setType .falling) ∧
  decode (.cmd 0x0100000000000001) = none ∧ decode (.cmd 0x0C00000000000000) = none ∧
  decode (.uop 0x22) = some .rbRead ∧ decode (.uop 0x43) = some .brgSwitchIfNeeded ∧
  decode (.uop 0x54) = none

/-- The 72-byte header image holds every field at the offset 10_state.md R45 to R47 give it, least
significant byte first (20_memory.md R75): reading the fields back gives the header. -/
def Obligations.HeaderImageRoundTrip : Prop :=
  ∀ h : Header, (headerBytes h).length = 72 ∧ headerOfBytes (headerBytes h) = h

/-! ### A step runs the decoded operation -/

/-- The drain of `P_CMD` runs the operation the head word decodes to, on the state with the word (and
the turn) taken off; an empty queue ends the drain (43_controller_commands.md R210). -/
def Obligations.StepRunsHeadCommand : Prop :=
  ∀ (s : State) (rest : List Turn), CtlTurn s rest → s.c.todo = [] → s.c.phase = .cmd →
    (∀ w q i, s.cmdq = w :: q → decode (.cmd w) = some i →
      step s = exec i { s with agenda := rest, cmdq := q }) ∧
    (s.cmdq = [] → step s = .next { s with agenda := rest, c := { s.c with phase := .wait } })

/-- A word that is no command raises `E_UNKNOWN_CMD`, and nothing else changes
(43_controller_commands.md R224). -/
def Obligations.UnknownWordIsRejected : Prop :=
  ∀ (s : State) (rest : List Turn) (w : Word64) (q : List Word64),
    CtlTurn s rest → s.c.todo = [] → s.c.phase = .cmd → s.cmdq = w :: q →
    tableCommand (w.extractLsb' 56 8).toNat (w.extractLsb' 0 56).toNat = none →
    step s =
      .next
        { s with
          agenda := rest
          cmdq := q
          err := { s.err with count := s.err.count + 1, code := 0x06, cmd := w } }

/-- A select presented at the unit-operation interface runs the operation it decodes to when that
operation's step is enabled, and waits when it is not; a select of no row is refused (30_encoding.md
R113, R118). That the interface is a slot of the state is the model's choice, log 12; that a step
that is not enabled changes nothing is log 14. -/
def Obligations.StepRunsPresentedSelect : Prop :=
  ∀ (s : State) (w : Select), s.par.valid = true → s.uop = some w →
    (∀ i, decode (.uop w) = some i → uopEnabled i s = true →
      step s = exec i { s with uop := none }) ∧
    (∀ i, decode (.uop w) = some i → uopEnabled i s = false → step s = .next s) ∧
    (decode (.uop w) = none → step s = .refused (.badSelect w))

/-- The situations outside the domain are refused, by name: parameters outside 00_scope.md R7 to R9, a
re-open with a request outstanding (45_bridge.md R310), a ring of capacity 0 (41_ring_buffer.md
R151). What the model does with them is its choice: log 3, log 22, log 21. -/
def Obligations.OutsideTheDomainIsRefused : Prop :=
  (∀ s : State, s.par.valid = false → step s = .refused .paramsOutOfDomain) ∧
  (∀ s : State, s.br.isOpen = true → s.br.latched = true →
    exec .rdrOpen s = .refused .reopenOutstanding) ∧
  (∀ s : State, s.port.cap = 0 → exec .rbConfigure s = .refused .capacityZero) ∧
  (∀ s : State, s.rb[s.port.c].cap = 0 → s.port.lane ≠ [] →
    exec .rbWrite s = .refused .capacityZero)

/-! ### Exceptions -/

/-- The two exception entries (60_exceptions.md R325, R330), and every rejection of a command: the code
of its first failing check and the word it came in, with nothing but the error log changed (R326,
R327; 43_controller_commands.md R216, R219, R220, R221). The delay is converted at `RATE_HZ` rounded
down where `NCH` does not divide `BASE_RATE_HZ`: the model's choice, log 4. -/
def Obligations.CommandRejections : Prop :=
  ((∀ (code : Byte) (cmd : Word64) (s : State),
     raiseConfigError code cmd s =
       { s with err := { count := s.err.count + 1, code := code, cmd := cmd, fatal := s.err.fatal } }) ∧
   (∀ (code : Byte) (s : State),
     raiseFatal code s =
       { s with err := { s.err with fatal := code }, c := { s.c with halted := true } })) ∧
  ((∀ (s : State) (w : Word64) (samples : Nat), decodeCmd w = some (.setDepth samples) →
     (samples < s.par.minw ∨ s.par.maxw < samples →
       exec (.setDepth samples) s = .next (raiseConfigError 0x01 w s)) ∧
     (s.par.minw ≤ samples → samples ≤ s.par.maxw → samples ≤ s.cfg.pos.toNat →
       exec (.setDepth samples) s = .next (raiseConfigError 0x02 w s))) ∧
   (∀ (s : State) (w : Word64) (microvolts : Int), decodeCmd w = some (.setLevel microvolts) →
     ((s.par.fsUv[s.cfg.src.toNat]'s.cfg.src.isLt).toNat : Int) < 2 * |microvolts| →
     exec (.setLevel microvolts) s = .next (raiseConfigError 0x03 w s)) ∧
   (∀ (s : State) (w : Word64) (channel : Nat), decodeCmd w = some (.setSrc channel) →
     s.par.nch ≤ channel → exec (.setSrc channel) s = .next (raiseConfigError 0x04 w s)) ∧
   (∀ (s : State) (w : Word64) (femtoseconds : Nat), decodeCmd w = some (.setDelay femtoseconds) →
     s.cfg.W.toNat ≤ femtoseconds * rateHz s.par / 10 ^ 15 →
     exec (.setDelay femtoseconds) s = .next (raiseConfigError 0x05 w s)))

/-- Every command completes, accepted or rejected, and a rejected one changes the error log alone
(43_controller_commands.md R211; 60_exceptions.md R325, R327). -/
def Obligations.CommandsAcceptOrReject : Prop :=
  ∀ (i : Instr) (s : State), isCommand i = true → s.par.valid = true → s.cfg.hyst.toNat ≤ 127 →
    ∃ t, exec i s = .next t ∧
      (t.err = s.err ∨
        (t = { s with err := t.err } ∧ t.err.count = s.err.count + 1 ∧ t.err.fatal = s.err.fatal))

/-- Once `CTL` has halted or exited, no step changes anything it owns, nor a byte of the segment, and
it stays so; the other agents go on (44_controller_sequencer.md R240, R261; 60_exceptions.md R330). -/
def Obligations.StoppedControllerFreezes : Prop :=
  ∀ s t : State, s.c.halted = true ∨ s.c.phase = .exit → step s = .next t →
    t.par = s.par ∧ t.cfg = s.cfg ∧ t.rb = s.rb ∧ t.trg = s.trg ∧
      t.c = { s.c with cancel := t.c.cancel } ∧ t.err = s.err ∧ t.bw = s.bw ∧ t.seg = s.seg ∧
      t.semReq ≥ s.semReq ∧ t.semResp ≤ s.semResp

/-! ### Host commands -/

/-- `RUN` restarts the engine and the two counters of a stopped core and leaves a running one alone;
`STOP` clears `C.runMode`; `FORCE` sets `C.forcePending`; none changes anything else
(43_controller_commands.md R213, R214, R215). -/
def Obligations.RunControlCommandsComplete : Prop :=
  (∀ s : State,
     (s.c.runMode = false →
       exec .run s =
         .next
           { s with
             trg := { s.trg with state := .unarmed, captureRemaining := 0, holdoffRemaining := 0 }
             c := { s.c with runMode := true, autoCount := 0, streamCount := 0 } }) ∧
     (s.c.runMode = true → exec .run s = .next s)) ∧
  (∀ s : State,
     exec .stop s = .next { s with c := { s.c with runMode := false } } ∧
     exec .force s = .next { s with c := { s.c with forcePending := true } })

/-- `SET_MODE` writes the mode, its image in the shadow header and the two counters
(43_controller_commands.md R217); `SET_TYPE` the edge, its image and the two arming enables, and
resets the engine (R222; 42_trigger_engine.md R176); an accepted `SET_SRC` the source, its image, and
resets the engine (R220). -/
def Obligations.ModeTypeAndSourceComplete : Prop :=
  (∀ (mode : TrigMode) (s : State),
     exec (.setMode mode) s =
       .next
         { s with
           cfg := { s.cfg with mode := mode }
           c := { s.c with autoCount := 0, streamCount := 0 }
           bw :=
             { s.bw with
               shadow :=
                 { s.bw.shadow with
                   proc :=
                     { s.bw.shadow.proc with
                       triggerMode :=
                         match mode with
                         | .normal => 0
                         | .single => 1
                         | .auto => 2
                         | .stream => 3 } } } }) ∧
  (∀ (edge : Edge) (s : State),
     exec (.setType edge) s =
       .next
         { s with
           cfg := { s.cfg with edge := edge }
           trg :=
             { s.trg with
               enR := !s.par.edgeGating || edge == .rising
               enF := !s.par.edgeGating || edge == .falling
               state := .unarmed
               captureRemaining := 0
               holdoffRemaining := 0 }
           bw :=
             { s.bw with
               shadow :=
                 { s.bw.shadow with
                   proc :=
                     { s.bw.shadow.proc with
                       triggerType :=
                         match edge with
                         | .rising => 0
                         | .falling => 1 } } } }) ∧
  (∀ (channel : Nat) (s : State), channel < s.par.nch →
     exec (.setSrc channel) s =
       .next
         { s with
           cfg := { s.cfg with src := .ofNat 2 channel }
           trg := { s.trg with state := .unarmed, captureRemaining := 0, holdoffRemaining := 0 }
           bw :=
             { s.bw with
               shadow :=
                 { s.bw.shadow with
                   proc := { s.bw.shadow.proc with triggerChannel := .ofNat 8 channel } } } })

/-- An accepted `SET_DEPTH` writes the width and its image, re-creates every ring in use at
`samples + L`, rewrites the horizontal parameters of the engine and clears the Stream count
(43_controller_commands.md R216). -/
def Obligations.SetDepthCompletes : Prop :=
  ∀ (samples : Nat) (s : State), s.par.valid = true → s.par.minw ≤ samples →
    samples ≤ s.par.maxw → s.cfg.pos.toNat < samples →
    ∃ trg, HorizontalSet s.trg trg (.ofNat 32 samples) s.cfg.pos s.cfg.addHoldoff ∧
      exec (.setDepth samples) s =
        .next
          { s with
            cfg := { s.cfg with W := .ofNat 32 samples }
            rb :=
              Vector.ofFn fun c : Fin 4 =>
                if c.val < s.par.nch then
                  { cap := .ofNat 33 (samples + laneLen s.par), wr := 0, mem := [], filled := 0 }
                else s.rb[c]
            trg := trg
            c := { s.c with streamCount := 0 }
            bw :=
              { s.bw with
                shadow :=
                  { s.bw.shadow with
                    proc := { s.bw.shadow.proc with channelLength := .ofNat 32 samples } } } }

/-- `SET_RATE` has no effect (43_controller_commands.md R218). -/
def Obligations.SetRateHasNoEffect : Prop :=
  ∀ (samplingHz : Nat) (s : State), exec (.setRate samplingHz) s = .next s

/-- An accepted `SET_DELAY` writes the position the delay converts to at the live rate, its image, and
the horizontal parameters of the engine (43_controller_commands.md R219). The rate is `BASE_RATE_HZ /
NCH` rounded down where `NCH` does not divide it: the model's choice, log 4. -/
def Obligations.SetDelayCompletes : Prop :=
  ∀ (femtoseconds pos : Nat) (s : State), pos = femtoseconds * rateHz s.par / 10 ^ 15 →
    pos < s.cfg.W.toNat →
    ∃ trg, HorizontalSet s.trg trg s.cfg.W (.ofNat 32 pos) s.cfg.addHoldoff ∧
      exec (.setDelay femtoseconds) s =
        .next
          { s with
            cfg := { s.cfg with pos := .ofNat 32 pos }
            trg := trg
            bw :=
              { s.bw with
                shadow :=
                  { s.bw.shadow with
                    proc := { s.bw.shadow.proc with triggerPosition := .ofNat 32 pos } } } }

/-- An accepted `SET_LEVEL` writes the level code of the request at the source channel's full scale,
its image, and the vertical parameters of the engine; a request of exactly half the full scale is
accepted (43_controller_commands.md R221). -/
def Obligations.SetLevelCompletes : Prop :=
  ∀ (microvolts : Int) (fs : Nat) (level : Byte) (s : State),
    fs = (s.par.fsUv[s.cfg.src.toNat]'s.cfg.src.isLt).toNat →
    level = Config.levelCode microvolts fs → 2 * |microvolts| ≤ fs → s.cfg.hyst.toNat ≤ 127 →
    ∃ trg, VerticalSet s.trg trg level s.cfg.hyst ∧
      exec (.setLevel microvolts) s =
        .next
          { s with
            cfg := { s.cfg with level := level }
            trg := trg
            bw :=
              { s.bw with
                shadow :=
                  { s.bw.shadow with proc := { s.bw.shadow.proc with triggerLevel := level } } } }

/-- `GET_RATE` makes ready `{0x8B, BASE_RATE_HZ / NCH}`; the next step of `CTL` that finds room on `RSPQ`
enqueues it, and while the queue is full `CTL` waits (43_controller_commands.md R223, 30_encoding.md
R112; 20_memory.md R90, R98). So, with room, two turns of `CTL` at a `GET_RATE` word answer it. That the
answer stands in a register of the controller between the two queue steps is the model's choice, log 13;
so are the rate rounded down where `NCH` does not divide `BASE_RATE_HZ`, and taken modulo 2^56, log 4. -/
def Obligations.GetRateAnswers : Prop :=
  (∀ s : State,
    exec .getRate s =
      .next
        { s with
          c :=
            { s.c with
              rspHold := some ((0x8B : Byte) ++ BitVec.ofNat 56 (s.par.baseRateHz / s.par.nch)) } }) ∧
  (∀ (s : State) (rest : List Turn) (r : Word64),
    CtlTurn { s with c := { s.c with rspHold := none } } rest → s.c.rspHold = some r →
    step s =
      if s.rspq.length < s.par.rspqDepth then
        .next
          { s with
            agenda := rest
            rspq := s.rspq ++ [r]
            c := { s.c with rspHold := none } }
      else .next { s with agenda := rest }) ∧
  (∀ (s : State) (more : List Turn) (w : Word64) (q : List Word64),
    CtlTurn s (.ctl :: more) → s.c.todo = [] → s.c.phase = .cmd → s.cmdq = w :: q →
    decodeCmd w = some .getRate → s.rspq.length < s.par.rspqDepth →
    Host.Core.run Sys2Proof.core 2 s =
      .next
        { s with
          agenda := more
          cmdq := q
          rspq := s.rspq ++ [(0x8B : Byte) ++ BitVec.ofNat 56 (s.par.baseRateHz / s.par.nch)] })

/-- A command publishes nothing and touches nothing of the other agents: the segment, the semaphores,
the reader, the queues other than `RSPQ`, the sequencer's place and the writer's flags stay
(43_controller_commands.md R212; 60_exceptions.md R346). -/
def Obligations.CommandsTouchOnlyConfiguration : Prop :=
  ∀ (i : Instr) (s t : State), isCommand i = true → exec i s = .next t →
    t =
      { s with
        cfg := t.cfg
        rb := t.rb
        trg := t.trg
        err := { t.err with fatal := s.err.fatal }
        rspq := t.rspq
        c :=
          { s.c with
            runMode := t.c.runMode
            forcePending := t.c.forcePending
            autoCount := t.c.autoCount
            streamCount := t.c.streamCount
            rspHold := t.c.rspHold }
        bw :=
          { s.bw with shadow := { s.bw.shadow with proc := t.bw.shadow.proc } } } ∧
    t.cfg.hyst = s.cfg.hyst ∧ t.cfg.addHoldoff = s.cfg.addHoldoff

/-! ### Lane Demultiplexer -/

/-- `DMX.DEMUX` gives `n` lanes of `BLOCK_BYTES / n` samples; of a held block, lane `k`, sample `j` is byte
`j * n + k` (40_demux.md R141); every byte of the block is used exactly once (R144 a), and for one lane
it is the identity (R142); with another count it raises `E_CHANNEL_COUNT` (R143). That the lanes stand
in `C.lanes` is the model's choice, log 15; so are the free values it draws, which a held block leaves
unused, log 8, and that it completes on them while no block is held, log 23. -/
def Obligations.DemuxCompletes : Prop :=
  ((∀ (s : State) (n : Nat), s.port.n = n → n = 1 ∨ n = 2 ∨ n = 4 →
     ∃ lanes : List (List Byte),
       exec .dmxDemux s =
         .next
           { s with
             c := { s.c with lanes := lanes }
             free := s.free + s.par.blockBytes } ∧
       lanes.length = n ∧
       ∀ k < n, ∃ lane, lanes[k]? = some lane ∧ lane.length = s.par.blockBytes / n ∧
         ∀ block, s.c.blk = some block → block.length = s.par.blockBytes →
           ∀ j < s.par.blockBytes / n, lane[j]? = block[j * n + k]?) ∧
   (∀ s : State, s.port.n ≠ 1 → s.port.n ≠ 2 → s.port.n ≠ 4 →
     exec .dmxDemux s = .next (raiseConfigError 0x07 0 s))) ∧
  ((∀ (block : List Byte) (n : Nat), 0 < n → n ∣ block.length →
     (demuxLanes block n).flatten.Perm block) ∧
   ∀ block : List Byte, demuxLanes block 1 = [block])

/-! ### Channel Ring Buffer -/

/-- `RB.CONFIGURE` sets the capacity, moves the cursor to 0 and forgets every cell (41_ring_buffer.md
R151). `RB.WRITE`: sample `k` goes to cell `(wr + k) mod cap`, a later one over an earlier one; no
other cell changes; cursor and count move as R153 says. -/
def Obligations.RbConfigureAndWriteComplete : Prop :=
  (∀ s : State, s.port.cap ≠ 0 →
     exec .rbConfigure s =
       .next
         { s with
           rb := s.rb.set s.port.c { cap := s.port.cap, wr := 0, mem := [], filled := 0 } }) ∧
  (∀ (s : State) (r : Ring) (n : Nat), r = s.rb[s.port.c] → n = s.port.lane.length →
     r.cap ≠ 0 →
     ∃ r' : Ring, exec .rbWrite s = .next { s with rb := s.rb.set s.port.c r' } ∧
       r'.cap = r.cap ∧ r'.wr.toNat = (r.wr.toNat + n) % r.cap.toNat ∧
       r'.filled.toNat = min r.cap.toNat (r.filled.toNat + n) ∧
       (∀ k < n, (∀ k' < n, k < k' → (r.wr.toNat + k') % r.cap.toNat ≠ (r.wr.toNat + k) % r.cap.toNat) →
         r'.mem.read? ((r.wr.toNat + k) % r.cap.toNat) = s.port.lane[k]?) ∧
       (∀ a, (∀ k < n, (r.wr.toNat + k) % r.cap.toNat ≠ a) → r'.mem.read? a = r.mem.read? a))

/-- `RB.READ` copies `len` cells from `(wr - endOffset - len) mod cap` on, the ring unchanged; beyond the
capacity it raises `F_RING_BOUNDS` and copies nothing (41_ring_buffer.md R156, R158). A cell never
written gives an unspecified value (R159); that it is a free value drawn anew at each read, and that the
draws are counted, is the model's choice, log 8. -/
def Obligations.RbReadCompletes : Prop :=
  ∀ (s : State) (r : Ring) (e : Nat), r = s.rb[s.port.c] → e = s.port.endOffset.toNat →
    (s.port.len + e ≤ r.cap.toNat →
      ∃ dest : List Byte,
        exec .rbRead s =
          .next { s with port := { s.port with dest := dest }, free := s.free + s.port.len } ∧
        dest.length = s.port.len ∧
        ∀ k < s.port.len, ∀ cell : Nat,
          (cell : Int) = ((r.wr.toNat : Int) - e - s.port.len + k) % (r.cap.toNat : Int) →
          dest[k]? =
            match r.mem.read? cell with
            | some b => some b
            | none => some (Config.freeByte (s.free + k))) ∧
    (r.cap.toNat < s.port.len + e → exec .rbRead s = .next (raiseFatal 0x80 s))

/-- The ring by stream index: after lanes of `P` samples in all, the cursor is `P mod cap`, the count
`min(cap, P)`, every one of the last `cap` samples is at its index modulo `cap`, and the other cells
have no value (41_ring_buffer.md R155). -/
def Obligations.RingHoldsTheLastSamples : Prop :=
  ∀ (cap : BitVec 33) (lanes : List (List Byte)), cap ≠ 0 →
    (ringAfter cap lanes).wr.toNat = lanes.flatten.length % cap.toNat ∧
    (ringAfter cap lanes).filled.toNat = min cap.toNat lanes.flatten.length ∧
    (∀ q, lanes.flatten.length - cap.toNat ≤ q → q < lanes.flatten.length →
      (ringAfter cap lanes).mem.read? (q % cap.toNat) = lanes.flatten[q]?) ∧
    ∀ a, (∀ q, lanes.flatten.length - cap.toNat ≤ q → q < lanes.flatten.length →
        q % cap.toNat ≠ a) →
      (ringAfter cap lanes).mem.read? a = none

/-- The ring's testable property: for any sequence of writes, a window inside the history is exactly
the samples written ending `endOffset` before the latest, across any wrap, and none is older than
`cap` samples (41_ring_buffer.md R161). -/
def Obligations.RingReturnsTheWindowWritten : Prop :=
  ∀ (cap : BitVec 33) (lanes : List (List Byte)) (len endOffset : Nat), cap ≠ 0 →
    len + endOffset ≤ cap.toNat → len + endOffset ≤ lanes.flatten.length →
    windowCells (ringAfter cap lanes) len endOffset =
      ((lanes.flatten.drop (lanes.flatten.length - endOffset - len)).take len).map some

/-- A window is at most two contiguous copies: `first = min(len, cap - start)` cells from `start`, the
rest from cell 0 (41_ring_buffer.md R157). -/
def Obligations.WindowIsTwoPieces : Prop :=
  ∀ (r : Ring) (len endOffset first : Nat), r.cap ≠ 0 → len + endOffset ≤ r.cap.toNat →
    first = min len (r.cap.toNat - windowStart r len endOffset) →
    windowCells r len endOffset =
      r.mem.readBytes (windowStart r len endOffset) first ++ r.mem.readBytes 0 (len - first)

/-! ### Edge Trigger Engine -/

/-- `TRG.SET_VERTICAL` sets level (nudged at the two edge values), hysteresis and arm levels, exactly
(42_trigger_engine.md R172, R173); `TRG.SET_HORIZONTAL` width, position, holdoff and the two derived
lengths (R174); `TRG.SET_EDGE` the arming enables by `EDGE_GATING` (R176); each resets the engine as
`TRG.RESET` does (R171). Operands out of range raise `E_TRG_PARAM` (R172, R174). -/
def Obligations.TrgConfigurationCompletes : Prop :=
  (∀ s : State,
     (s.port.hyst.toNat ≤ 127 →
       ∃ trg, VerticalSet s.trg trg s.port.level s.port.hyst ∧
         exec .trgSetVertical s = .next { s with trg := trg }) ∧
     (127 < s.port.hyst.toNat → exec .trgSetVertical s = .next (raiseConfigError 0x08 0 s))) ∧
  (∀ s : State,
     (s.port.pos.toNat < s.port.W.toNat →
       ∃ trg, HorizontalSet s.trg trg s.port.W s.port.pos s.port.add ∧
         exec .trgSetHorizontal s = .next { s with trg := trg }) ∧
     (s.port.W.toNat ≤ s.port.pos.toNat →
       exec .trgSetHorizontal s = .next (raiseConfigError 0x08 0 s))) ∧
  (∀ s : State,
     exec .trgSetEdge s =
       .next
         { s with
           trg :=
             { s.trg with
               enR := !s.par.edgeGating || s.port.edge == .rising
               enF := !s.par.edgeGating || s.port.edge == .falling
               state := .unarmed
               captureRemaining := 0
               holdoffRemaining := 0 } } ∧
     exec .trgReset s =
       .next
         { s with
           trg := { s.trg with state := .unarmed, captureRemaining := 0, holdoffRemaining := 0 } })

/-- The step of the engine on one sample, state by state (42_trigger_engine.md R179 to R183, R185), and
the scan as one step per sample, a capture that ends on sample `i` giving the end `i + 1` (R178). -/
def Obligations.TriggerStepRules : Prop :=
  (∀ (t : Trg) (x : Byte), t.state = .unarmed →
    trgStep t x =
      if t.enR = true ∧ x.toInt ≤ t.lo.toInt then ({ t with state := .armedRising }, false)
      else if t.enF = true ∧ t.hi.toInt ≤ x.toInt then ({ t with state := .armedFalling }, false)
      else (t, false)) ∧
  (∀ (t : Trg) (x : Byte), t.state = .armedRising →
    trgStep t x =
      if t.level.toInt < x.toInt then
        consumeCapture { t with state := .inCapture, captureRemaining := t.captureSamples }
      else (t, false)) ∧
  (∀ (t : Trg) (x : Byte), t.state = .armedFalling →
    trgStep t x =
      if x.toInt < t.level.toInt then
        consumeCapture { t with state := .inCapture, captureRemaining := t.captureSamples }
      else (t, false)) ∧
  (∀ (t : Trg) (x : Byte), t.state = .inCapture → trgStep t x = consumeCapture t) ∧
  (∀ (t : Trg) (x : Byte), t.state = .inHoldoff →
    trgStep t x =
      if t.holdoffRemaining = 1 then ({ t with holdoffRemaining := 0, state := .unarmed }, false)
      else ({ t with holdoffRemaining := t.holdoffRemaining - 1 }, false)) ∧
  (∀ t : Trg,
    consumeCapture t =
      if t.captureRemaining ≠ 1 then
        ({ t with captureRemaining := t.captureRemaining - 1 }, false)
      else if t.holdoffSamples = 0 then ({ t with captureRemaining := 0, state := .unarmed }, true)
      else
        ({ t with captureRemaining := 0, state := .inHoldoff, holdoffRemaining := t.holdoffSamples },
          true)) ∧
  (∀ (t : Trg) (i : Nat) (x : Byte) (xs : List Byte),
    trgScan t i (x :: xs) =
      ((trgScan (trgStep t x).1 (i + 1) xs).1,
        (if (trgStep t x).2 then [BitVec.ofNat 32 (i + 1)] else []) ++
          (trgScan (trgStep t x).1 (i + 1) xs).2))

/-- `TRG.PROCESS` completes on every lane: the engine goes where the scan of the lane takes it, sample by
sample (`TriggerStepRules`), so that its state and countdowns carry over to the next lane; no
configuration register changes, and the capture ends are in increasing order, each in `1 .. n`
(42_trigger_engine.md R178, R186). That `T.i` and `T.ends` keep their values after the call is the
model's choice, log 24. -/
def Obligations.TrgProcessCompletes : Prop :=
  ∀ (s : State) (trg : Trg), trg = (trgScan s.trg 0 s.port.lane).1 →
    exec .trgProcess s =
      .next
        { s with
          trg :=
            { s.trg with
              state := trg.state
              captureRemaining := trg.captureRemaining
              holdoffRemaining := trg.holdoffRemaining
              i := .ofNat 32 s.port.lane.length
              ends := (trgScan s.trg 0 s.port.lane).2 } } ∧
    (s.port.lane.length < 2 ^ 32 →
      ((trgScan s.trg 0 s.port.lane).2.map BitVec.toNat).Pairwise (· < ·) ∧
      ∀ e ∈ (trgScan s.trg 0 s.port.lane).2.map BitVec.toNat, 1 ≤ e ∧ e ≤ s.port.lane.length)

/-- Chunking invariance: a stream scanned in any lanes gives the registers and, counted from the start
of the stream, the capture ends of one scan of the whole (42_trigger_engine.md R187). -/
def Obligations.ScanIgnoresChunking : Prop :=
  ∀ (t : Trg) (lanes : List (List Byte)), scanLanes t 0 lanes = trgScan t 0 lanes.flatten

/-- Consecutive capture ends are at least `W + add + 1` samples apart (42_trigger_engine.md R188), so
one call on `n` samples gives at most `1 + (n - 1) / (W + add + 1)` of them (R190). -/
def Obligations.CaptureEndsAreSpaced : Prop :=
  ∀ (t : Trg) (lane : List Byte), t.pos.toNat < t.W.toNat →
    t.captureSamples.toNat = t.W.toNat - t.pos.toNat →
    t.holdoffSamples.toNat = t.pos.toNat + t.add.toNat → lane.length < 2 ^ 32 →
    ((trgScan t 0 lane).2.map BitVec.toNat).Pairwise
      (fun e e' => e + t.W.toNat + t.add.toNat + 1 ≤ e') ∧
    (trgScan t 0 lane).2.length ≤ 1 + (lane.length - 1) / (t.W.toNat + t.add.toNat + 1)

/-- A constant-then-step input whose first sample arms and which then crosses gives exactly one capture
end, at the crossing plus `captureSamples`, in either direction; a sample taken in the holdoff ends no
capture (42_trigger_engine.md R193, read by R186; here with `armIndex` 0 and one edge enabled). -/
def Obligations.StepInputTriggersOnce : Prop :=
  (∀ (t : Trg) (low high : Byte) (a b : Nat), t.state = .unarmed → 0 < a → a + b < 2 ^ 32 →
    t.captureSamples ≠ 0 → t.captureSamples.toNat ≤ b → t.lo.toInt ≤ t.level.toInt →
    t.level.toInt ≤ t.hi.toInt →
    (t.enR = true → t.enF = false → low.toInt ≤ t.lo.toInt → t.level.toInt < high.toInt →
      (trgScan t 0 (List.replicate a low ++ List.replicate b high)).2 =
        [BitVec.ofNat 32 (a + t.captureSamples.toNat)]) ∧
    (t.enR = false → t.enF = true → t.hi.toInt ≤ high.toInt → low.toInt < t.level.toInt →
      (trgScan t 0 (List.replicate a high ++ List.replicate b low)).2 =
        [BitVec.ofNat 32 (a + t.captureSamples.toNat)])) ∧
  (∀ (t : Trg) (x : Byte), t.state = .inHoldoff → (trgStep t x).2 = false)

/-! ### Bridge, writer side -/

/-- `BRG.INIT` clears the semaphores and the writer's flags, writes the initial header to the shadow
and to the segment, and makes every byte of the regions unspecified anew (45_bridge.md R281;
10_state.md R45 to R47). That a count names those unspecified bytes is the model's, log 8; the ghost
`swaps` is log 25. -/
def Obligations.BrgInitCompletes : Prop :=
  ∀ s : State,
    ∃ (shadow : Header) (seg : Memory),
      exec .brgInit s =
        .next
          { s with
            bw := { shadow := shadow, filled := false, reqPending := false, swaps := 0 }
            seg := seg
            segGen := s.segGen + 1
            semReq := 0
            semResp := 0 } ∧
      shadow.version = s.par.formatVersion ∧
      shadow.dataCapacityBytes = .ofNat 64 (2 * (4 * s.par.maxw)) ∧
      shadow.maxChannelCount = 4 ∧ shadow.maxChannelDataLength = .ofNat 32 s.par.maxw ∧
      shadow.channelDataWidth = 1 ∧ shadow.activeRegion = 1 ∧ shadow.triggered = 0 ∧
      shadow.hw.channelMode = .ofNat 8 s.par.nch ∧ shadow.hw.fullScale = s.par.fsUv ∧
      shadow.proc = procImage s.par s.cfg ∧ shadow.reserved = 0 ∧
      shadow.totalAcquisitions = 0 ∧ shadow.droppedAcquisitions = 0 ∧
      ∀ a, seg.read? a = (headerBytes shadow)[a]?

/-- `BRG.ACQ_REGION` gives the base of the region the shadow selector names and the size `NCH * CFG.W`,
and changes no state but its result port; another selector raises `F_REGION_ENUM` (45_bridge.md R283;
20_memory.md R72). `BRG.DATA_WRITTEN` counts the window, counts a dropped one if the region was
already filled, and marks the region filled; nothing is published (R285). -/
def Obligations.BrgRegionAndDataWrittenComplete : Prop :=
  (∀ s : State,
     (s.bw.shadow.activeRegion = 1 →
       exec .brgAcqRegion s =
         .next
           { s with
             port := { s.port with viewBase := 72, viewSize := s.par.nch * s.cfg.W.toNat } }) ∧
     (s.bw.shadow.activeRegion = 2 →
       exec .brgAcqRegion s =
         .next
           { s with
             port :=
               { s.port with
                 viewBase := 72 + 4 * s.par.maxw
                 viewSize := s.par.nch * s.cfg.W.toNat } }) ∧
     (s.bw.shadow.activeRegion ≠ 1 → s.bw.shadow.activeRegion ≠ 2 →
       exec .brgAcqRegion s = .next (raiseFatal 0x81 s))) ∧
  (∀ s : State,
     exec .brgDataWritten s =
       .next
         { s with
           bw :=
             { s.bw with
               filled := true
               shadow :=
                 { s.bw.shadow with
                   totalAcquisitions := s.bw.shadow.totalAcquisitions + 1
                   droppedAcquisitions :=
                     s.bw.shadow.droppedAcquisitions + (if s.bw.filled then 1 else 0)
                   triggered := if s.port.trig then 1 else 0 } } })

/-- `BRG.SWITCH_IF_NEEDED`: a request is taken from `SEM.req` only when none is cached; with a request
and a filled region the regions exchange roles, the header is published whole, the response is
raised and the result is true; else only the request is cached (45_bridge.md R287, R288). -/
def Obligations.BrgSwitchCompletes : Prop :=
  ∀ (s : State) (pending : Bool) (semReq : Nat),
    pending = (s.bw.reqPending || decide (0 < s.semReq)) →
    semReq = (if s.bw.reqPending then s.semReq else s.semReq - 1) →
    (pending = true → s.bw.filled = true →
      ∃ (shadow : Header) (seg : Memory),
        exec .brgSwitchIfNeeded s =
          .next
            { s with
              semReq := semReq
              semResp := s.semResp + 1
              bw :=
                { shadow := shadow, filled := false, reqPending := false, swaps := s.bw.swaps + 1 }
              seg := seg
              port := { s.port with swapped := true } } ∧
        shadow = { s.bw.shadow with activeRegion := otherRegion s.bw.shadow.activeRegion } ∧
        (s.bw.shadow.activeRegion = 1 → shadow.activeRegion = 2) ∧
        (s.bw.shadow.activeRegion = 2 → shadow.activeRegion = 1) ∧
        ∀ a, seg.read? a = if a < 72 then (headerBytes shadow)[a]? else s.seg.read? a) ∧
    (pending = false ∨ s.bw.filled = false →
      exec .brgSwitchIfNeeded s =
        .next
          { s with
            semReq := semReq
            bw := { s.bw with reqPending := pending }
            port := { s.port with swapped := false } })

/-! ### Bridge, reader side -/

/-- `RDR.OPEN` opens the reader once the published version is not 0; until then the reader polls and
nothing changes (45_bridge.md R298; the poll as a step that changes nothing is log 14).
`RDR.READ_HEADER` loads the 72 published bytes into `BR.hdr` and changes nothing else (R304). -/
def Obligations.RdrOpenAndReadHeaderComplete : Prop :=
  (∀ s : State, ¬(s.br.isOpen = true ∧ s.br.latched = true) →
     ((headerOfBytes (publishedHeader s)).version ≠ 0 →
       exec .rdrOpen s = .next { s with br := { s.br with isOpen := true, latched := false } }) ∧
     ((headerOfBytes (publishedHeader s)).version = 0 → exec .rdrOpen s = .next s)) ∧
  (∀ s : State, s.br.isOpen = true → s.br.waiting = false →
     ∃ hdr : List Byte,
       exec .rdrReadHeader s = .next { s with br := { s.br with hdr := hdr } } ∧ hdr.length = 72 ∧
       ∀ a < 72, ∀ b, s.seg.read? a = some b → hdr[a]? = some b)

/-- `RDR.REQUEST_AND_WAIT` is two steps: the request is raised at most once until honoured, and the
wait is satisfied exactly when `SEM.resp > 0`, else times out (45_bridge.md R300, R302; 20_memory.md
R93). The registers of the wait are the model's, log 16. -/
def Obligations.RdrRequestAndWaitCompletes : Prop :=
  ∀ s : State, s.br.isOpen = true →
    (s.br.waiting = false →
      exec .rdrRequestAndWait s =
        .next
          { s with
            semReq := s.semReq + (if s.br.latched then 0 else 1)
            br := { s.br with latched := true, waiting := true, inWindow := false } }) ∧
    (s.br.waiting = true → 0 < s.semResp →
      exec .rdrRequestAndWait s =
        .next
          { s with
            semResp := s.semResp - 1
            br := { s.br with latched := false, waiting := false, inWindow := true }
            port := { s.port with satisfied := true } }) ∧
    (s.br.waiting = true → s.semResp = 0 →
      exec .rdrRequestAndWait s =
        .next
          { s with
            br := { s.br with waiting := false }
            port := { s.port with satisfied := false } })

/-- `RDR.READ_REGION` is a step that reads the header again and then one step for each of the `n =
channelCount * channelLength * channelDataWidth` bytes of the region the header does not name
(45_bridge.md R306; 20_memory.md R90), so that it completes in `n + 1` turns of the consumer when no other
turn falls between them. A byte is what was last stored at its place, or, where nothing was stored since
`BRG.INIT`, the unspecified byte of that place (10_state.md R53), named by `Config.regionByte`, log 8: a
read again with nothing stored between gives the same (20_memory.md R78, R88). Only in a race is it a
free value, drawn anew (20_memory.md R89; 70_reset_and_hazards.md R376; 93 V3), log 8: the reader is
outside its window with a request outstanding, and `CTL` has not stopped or the response of its swap is
not yet taken. An unrecognised selector gives the consumer `F_REGION_ENUM` and no bytes (R306). That the
read in progress stands in `BR.reading` is log 16; the stop beyond the segment is log 20. -/
def Obligations.RdrReadRegionCompletes : Prop :=
  (∀ (s : State) (h : Header) (base n : Nat),
     s.br.isOpen = true → s.br.waiting = false → s.br.reading = none →
     h = headerOfBytes (publishedHeader s) →
     (h.activeRegion = 1 ∧ base = 72 + 4 * s.par.maxw) ∨ (h.activeRegion = 2 ∧ base = 72) →
     n = h.proc.channelCount.toNat * h.proc.channelLength.toNat * h.channelDataWidth.toNat →
     exec .rdrReadRegion s =
       .next
         { s with
           br :=
             { s.br with
               hdr := publishedHeader s
               reading := if n = 0 then none else some { addr := base, more := n - 1 } }
           port := { s.port with bytes := [], rdrFault := none } } ∧
     ∀ more, s.par.valid = true → s.uop = none →
       s.agenda = .con .readRegion :: List.replicate n .conRead ++ more → base + n ≤ segBytes s.par →
       ∃ bytes : List Byte,
         Host.Core.run Sys2Proof.core (n + 1) s =
           .next
             { s with
               agenda := more
               free := s.free + (if readRaces s then n else 0)
               br := { s.br with hdr := publishedHeader s }
               port := { s.port with bytes := bytes, rdrFault := none } } ∧
         bytes.length = n ∧
         ∀ k < n,
           bytes[k]? =
             if readRaces s then some (Config.freeByte (s.free + k))
             else
               match s.seg.read? (base + k) with
               | some b => some b
               | none => some (Config.regionByte s.segGen (base + k))) ∧
  (∀ (s : State) (r : RegionCursor), s.br.isOpen = true → s.br.waiting = false →
     s.br.reading = some r →
     (r.addr < segBytes s.par →
       ∃ b : Byte,
         exec .rdrReadRegion s =
           .next
             { s with
               free := s.free + (if readRaces s then 1 else 0)
               br :=
                 { s.br with
                   reading :=
                     if r.more = 0 then none else some { addr := r.addr + 1, more := r.more - 1 } }
               port := { s.port with bytes := s.port.bytes ++ [b] } } ∧
         (readRaces s = true → b = Config.freeByte s.free) ∧
         (readRaces s = false →
           b =
             match s.seg.read? r.addr with
             | some stored => stored
             | none => Config.regionByte s.segGen r.addr)) ∧
     (segBytes s.par ≤ r.addr → exec .rdrReadRegion s = .fault .segBounds)) ∧
  (∀ s : State,
     readRaces s = true ↔
       s.br.inWindow = false ∧ s.br.latched = true ∧
         ((s.c.halted = false ∧ s.c.phase ≠ .exit) ∨ 0 < s.semResp)) ∧
  (∀ s : State, s.br.isOpen = true → s.br.waiting = false → s.br.reading = none →
     (headerOfBytes (publishedHeader s)).activeRegion ≠ 1 →
     (headerOfBytes (publishedHeader s)).activeRegion ≠ 2 →
     exec .rdrReadRegion s =
       .next
         { s with
           br := { s.br with hdr := publishedHeader s }
           port := { s.port with bytes := [], rdrFault := some 0x81 } })

/-! ### The sequencer -/

/-- `P_CHECK` leaves the loop on a cancellation and else goes to the commands; `P_WAIT` takes the block
at the head of `BLKQ` or, with none, the timeout exit; `P_RETURN` hands the held block to `POOL`
(44_controller_sequencer.md R241 to R243, R259). `P_SWAP`, and the timeout exit if `SWAP_ON_IDLE`, place
the swap check and the way back to `P_CHECK` as work still to do; run to its end, in three more turns of
`CTL` or four where a swap happens, that work is exactly `BRG.SWITCH_IF_NEEDED` and `phase <- P_CHECK`
(R243, R260). Two things here are the model's choice: that the return clears the held block and the lanes,
`C.blk` to none and `C.lanes` to the empty list, log 28; and the work list `C.todo` with the grain of its
turns, log 13 and log 7. -/
def Obligations.PhaseTransitions : Prop :=
  (∀ (s : State) (rest : List Turn), CtlTurn s rest → s.c.todo = [] → s.c.phase = .check →
     step s =
       .next
         { s with
           agenda := rest
           c := { s.c with phase := if s.c.cancel then .exit else .cmd } }) ∧
  (∀ (s : State) (rest : List Turn), CtlTurn s rest → s.c.todo = [] → s.c.phase = .wait →
     (∀ block q, s.blkq = block :: q →
       step s =
         .next
           { s with
             agenda := rest
             blkq := q
             c := { s.c with blk := some block, phase := .feed } }) ∧
     (s.blkq = [] → s.par.swapOnIdle = false →
       step s = .next { s with agenda := rest, c := { s.c with phase := .check } }) ∧
     (s.blkq = [] → s.par.swapOnIdle = true →
       step s =
         .next
           { s with
             agenda := rest
             c := { s.c with todo := [.swapPoll, .swapPublish, .goto .check] } })) ∧
  (∀ (s : State) (rest : List Turn), CtlTurn s rest → s.c.todo = [] →
     (∀ block, s.c.phase = .ret → s.c.blk = some block →
       step s =
         .next
           { s with
             agenda := rest
             pool := s.pool ++ [block]
             c := { s.c with blk := none, lanes := [], phase := .swap } }) ∧
     (s.c.phase = .swap →
       step s =
         .next
           { s with
             agenda := rest
             c := { s.c with todo := [.swapPoll, .swapPublish, .goto .check] } })) ∧
  (∀ (s : State) (rest : List Turn) (work : List Micro) (p : Phase), CtlTurn s rest →
     s.c.todo = .goto p :: work →
     step s = .next { s with agenda := rest, c := { s.c with phase := p, todo := work } }) ∧
  (∀ (s : State) (more : List Turn) (swap : Bool),
     CtlTurn s ([.ctl, .ctl, .ctl, .ctl] ++ more) → s.c.todo = [] →
     s.c.phase = .swap ∨ (s.c.phase = .wait ∧ s.blkq = [] ∧ s.par.swapOnIdle = true) →
     swap = (switchIfNeeded s).1 →
     Host.Core.run Sys2Proof.core (if swap then 5 else 4) s =
       .next
         { (switchIfNeeded s).2 with
           agenda := if swap then more else .ctl :: more
           c := { s.c with phase := .check } })

/-- `P_FEED` clears `C.delivered`, demultiplexes the held block and writes each lane to its ring,
running or not (44_controller_sequencer.md R245). That the lanes stand in `C.lanes` until `P_RETURN` is
log 15, and the free values drawn, which the held block leaves unused, are log 8: both the model's. -/
def Obligations.FeedPhaseStep : Prop :=
  ∀ (s : State) (rest : List Turn) (block : List Byte), CtlTurn s rest → s.c.todo = [] →
    s.c.phase = .feed → s.c.blk = some block → block.length = s.par.blockBytes →
    (∀ c : Fin 4, c.val < s.par.nch → s.rb[c].cap ≠ 0) →
    step s =
      .next
        { s with
          agenda := rest
          free := s.free + s.par.blockBytes
          c :=
            { s.c with
              delivered := false
              lanes := demuxLanes block s.par.nch
              phase := .trig }
          rb :=
            Vector.ofFn fun c : Fin 4 =>
              if c.val < s.par.nch then
                ringWritten s.rb[c] ((demuxLanes block s.par.nch).getD c.val [])
              else s.rb[c] }

/-- `P_TRIG` does nothing in a stopped core, counts and starts the Stream loop in Stream mode, and else
starts the scan, the service of the force and, in Auto mode, of the timeout, in that order
(44_controller_sequencer.md R247, R248, R258). What it starts stands in the work list `C.todo`, which is
the model's, log 13 (its grain log 7); `CaptureEndsAreDelivered`, `ForceTimeoutAndStreamDeliveries` and
`PhaseTransitions` say what each entry does. -/
def Obligations.TriggerPhaseStep : Prop :=
  ∀ (s : State) (rest : List Turn), CtlTurn s rest → s.c.todo = [] → s.c.phase = .trig →
    (s.c.runMode = false →
      step s = .next { s with agenda := rest, c := { s.c with phase := .ret } }) ∧
    (s.c.runMode = true → s.cfg.mode = .stream →
      step s =
        .next
          { s with
            agenda := rest
            c :=
              { s.c with
                streamCount := s.c.streamCount + .ofNat 64 (s.par.blockBytes / s.par.nch)
                todo := [.streamLoop, .goto .ret] } }) ∧
    (s.c.runMode = true → s.cfg.mode = .auto →
      step s =
        .next
          { s with
            agenda := rest
            c := { s.c with todo := [.scan, .serviceForce, .autoTimeout, .goto .ret] } }) ∧
    (s.c.runMode = true → s.cfg.mode = .normal ∨ s.cfg.mode = .single →
      step s =
        .next
          { s with
            agenda := rest
            c := { s.c with todo := [.scan, .serviceForce, .goto .ret] } })

/-- The scan hands its capture ends on; each end `e` is scheduled for delivery as a real trigger at
endOffset `L - e`, in order; in Single mode the end of the first delivery clears `C.runMode` and discards
the rest (44_controller_sequencer.md R248, R251, R252, R254). The deliveries are entries of the work
list `C.todo`, which is the model's, log 13 (its grain log 7); `DeliverPutsEveryWindow` says what they
do. -/
def Obligations.CaptureEndsAreDelivered : Prop :=
  ∀ (s : State) (rest : List Turn) (work : List Micro), CtlTurn s rest →
    (s.c.todo = .scan :: work →
      step s =
        .next
          { s with
            agenda := rest
            trg := trgProcessed s.trg (s.c.lanes.getD s.cfg.src.toNat [])
            c :=
              { s.c with
                todo :=
                  .deliverEnds (trgProcessed s.trg (s.c.lanes.getD s.cfg.src.toNat [])).ends ::
                    work } }) ∧
    (s.c.todo = .deliverEnds [] :: work →
      step s = .next { s with agenda := rest, c := { s.c with todo := work } }) ∧
    (∀ e es, s.c.todo = .deliverEnds (e :: es) :: work →
      step s =
        .next
          { s with
            agenda := rest
            c :=
              { s.c with
                todo :=
                  [.copyWindow (laneLen s.par - e.toNat) true, .swapPoll, .swapPublish,
                    .markDelivered, .endDelivered es] ++ work } }) ∧
    (∀ es, s.c.todo = .endDelivered es :: work →
      step s =
        if s.cfg.mode = .single then
          .next { s with agenda := rest, c := { s.c with runMode := false, todo := work } }
        else .next { s with agenda := rest, c := { s.c with todo := .deliverEnds es :: work } })

/-- A pending force is served once: discarded if a window was delivered in this iteration, else
scheduled for delivery at offset 0 as no real trigger, which stops a Single core. The Auto timeout adds
`L` in an iteration without a delivery and schedules a synthesized window when the count has run out.
Stream mode schedules a window for every `CFG.W` counted, by the comparison of `STREAM_CMP_GE`
(44_controller_sequencer.md R256, R257, R258). The deliveries are entries of the work list `C.todo`,
which is the model's, log 13 (its grain log 7). -/
def Obligations.ForceTimeoutAndStreamDeliveries : Prop :=
  (∀ (s : State) (rest : List Turn) (work : List Micro), CtlTurn s rest →
     (s.c.todo = .serviceForce :: work →
       (s.c.forcePending = false →
         step s = .next { s with agenda := rest, c := { s.c with todo := work } }) ∧
       (s.c.forcePending = true → s.c.delivered = true →
         step s =
           .next { s with agenda := rest, c := { s.c with forcePending := false, todo := work } }) ∧
       (s.c.forcePending = true → s.c.delivered = false →
         step s =
           .next
             { s with
               agenda := rest
               c :=
                 { s.c with
                   todo :=
                     [.copyWindow 0 false, .swapPoll, .swapPublish, .markDelivered, .forceServed] ++
                       work } })) ∧
     (s.c.todo = .forceServed :: work →
       step s =
         .next
           { s with
             agenda := rest
             c :=
               { s.c with
                 runMode := s.c.runMode && s.cfg.mode != .single
                 forcePending := false
                 todo := work } })) ∧
  (∀ (s : State) (rest : List Turn) (work : List Micro) (n : Word64), CtlTurn s rest →
     n = s.c.autoCount + .ofNat 64 (laneLen s.par) →
     (s.c.todo = .autoTimeout :: work →
       (s.c.delivered = true →
         step s = .next { s with agenda := rest, c := { s.c with todo := work } }) ∧
       (s.c.delivered = false →
         step s =
           .next
             { s with
               agenda := rest
               c :=
                 { s.c with
                   autoCount := n
                   todo :=
                     if s.par.autoTimeoutSamples ≤ n.toNat then
                       [.copyWindow 0 false, .swapPoll, .swapPublish, .markDelivered] ++ work
                     else work } })) ∧
     (s.c.todo = .streamLoop :: work →
       step s =
         .next
           { s with
             agenda := rest
             c :=
               { s.c with
                 todo :=
                   if s.cfg.W.toNat < s.c.streamCount.toNat ∨
                       (s.par.streamCmpGe = true ∧ s.c.streamCount.toNat = s.cfg.W.toNat) then
                     [.copyWindow 0 false, .swapPoll, .swapPublish, .markDelivered, .streamTaken] ++
                       work
                   else work } }) ∧
     (s.c.todo = .streamTaken :: work →
       step s =
         .next
           { s with
             agenda := rest
             c :=
               { s.c with
                 streamCount := s.c.streamCount - s.cfg.W.setWidth 64
                 todo := .streamLoop :: work } }))

/-- `Deliver(endOffset, trig)` run to its end: every channel's window is in the acquiring region at
`c * CFG.W`, and no other byte of a region has changed; the header is as it was, or, where the swap
happened, the shadow header whole; the acquisition is counted, the swap check has run, and `C.autoCount`
and `C.delivered` are set; everything else is as before (44_controller_sequencer.md R250; 20_memory.md
R73; 45_bridge.md R284, R285, R287). That it is `5 + NCH * (CFG.W + 2)` turns of `CTL`, or one more where
the swap happens, each stored byte taking its own (as 20_memory.md R90 asks), with the rest of its work
in `C.todo`, is the model's choice, log 7 and log 13; so are the free values an unwritten ring cell
gives, log 8. -/
def Obligations.DeliverPutsEveryWindow : Prop :=
  ∀ (s : State) (endOffset base : Nat) (trig swap : Bool) (work : List Micro) (more : List Turn),
    Inv s → s.c.phase ≠ .exit → s.c.todo = deliverProg endOffset trig ++ work →
    s.agenda = List.replicate (6 + s.par.nch * (s.cfg.W.toNat + 2)) .ctl ++ more →
    swap = (s.bw.reqPending || decide (0 < s.semReq)) →
    (s.bw.shadow.activeRegion = 1 ∧ base = 72) ∨
      (s.bw.shadow.activeRegion = 2 ∧ base = 72 + 4 * s.par.maxw) →
    ∃ (seg : Memory) (free : Nat) (shadow : Header),
      Host.Core.run Sys2Proof.core
          (5 + s.par.nch * (s.cfg.W.toNat + 2) + (if swap then 1 else 0)) s =
        .next
          { s with
            agenda := if swap then more else .ctl :: more
            c := { s.c with todo := work, autoCount := 0, delivered := true }
            bw :=
              { shadow := shadow
                filled := !swap
                reqPending := false
                swaps := s.bw.swaps + (if swap then 1 else 0) }
            seg := seg
            semReq := if s.bw.reqPending then s.semReq else s.semReq - 1
            semResp := s.semResp + (if swap then 1 else 0)
            free := free } ∧
      shadow =
        { s.bw.shadow with
          totalAcquisitions := s.bw.shadow.totalAcquisitions + 1
          droppedAcquisitions :=
            s.bw.shadow.droppedAcquisitions + (if s.bw.filled then 1 else 0)
          triggered := if trig then 1 else 0
          activeRegion :=
            if swap then otherRegion s.bw.shadow.activeRegion else s.bw.shadow.activeRegion } ∧
      (∀ c : Fin 4, c.val < s.par.nch → ∀ k < s.cfg.W.toNat, ∃ b,
        seg.read? (windowAddr s base c k) = some b ∧
        ∀ v, (windowCells s.rb[c] s.cfg.W.toNat endOffset)[k]? = some (some v) → b = v) ∧
      (∀ a, 72 ≤ a →
        (∀ c : Fin 4, c.val < s.par.nch → ∀ k < s.cfg.W.toNat, a ≠ windowAddr s base c k) →
        seg.read? a = s.seg.read? a) ∧
      ∀ a < 72, seg.read? a = if swap then (headerBytes shadow)[a]? else s.seg.read? a

/-! ### The whole machine -/

/-- Every register after reset to which the spec gives a reset value, for every parameter record; the
engine is configured from `CFG0` as 42_trigger_engine.md R172 to R176 say (10_state.md R60;
70_reset_and_hazards.md R360). The values the spec leaves open are not stated here. -/
def Obligations.ResetValues : Prop :=
  ∀ (p : Params) (s : State), s = State.resetOf p →
    s.cfg =
      { W := .ofNat 32 p.cfg0.W, pos := .ofNat 32 p.cfg0.pos, level := .ofInt 8 p.cfg0.level,
        hyst := .ofNat 8 p.cfg0.hyst, edge := p.cfg0.edge,
        addHoldoff := .ofNat 32 p.cfg0.addHoldoff, src := .ofNat 2 p.cfg0.src,
        mode := p.cfg0.mode } ∧
    (∀ c : Fin 4, c.val < p.nch →
      s.rb[c] =
        { cap := .ofNat 33 (p.cfg0.W + laneLen p), wr := 0, mem := [], filled := 0 }) ∧
    (s.trg.state = .unarmed ∧ s.trg.captureRemaining = 0 ∧ s.trg.holdoffRemaining = 0) ∧
    (p.valid = true →
      s.trg.W.toNat = p.cfg0.W ∧ s.trg.pos.toNat = p.cfg0.pos ∧ s.trg.add.toNat = p.cfg0.addHoldoff ∧
      s.trg.captureSamples.toNat = p.cfg0.W - p.cfg0.pos ∧
      s.trg.holdoffSamples.toNat = p.cfg0.pos + p.cfg0.addHoldoff ∧
      s.trg.hyst.toNat = p.cfg0.hyst ∧
      s.trg.level.toInt =
        (if p.cfg0.level = -128 then -128 + (p.cfg0.hyst : Int)
         else if p.cfg0.level = 127 then 127 - (p.cfg0.hyst : Int)
         else p.cfg0.level) ∧
      s.trg.lo.toInt = s.trg.level.toInt - p.cfg0.hyst ∧
      s.trg.hi.toInt = s.trg.level.toInt + p.cfg0.hyst ∧
      s.trg.enR = (!p.edgeGating || p.cfg0.edge == .rising) ∧
      s.trg.enF = (!p.edgeGating || p.cfg0.edge == .falling)) ∧
    (s.c.runMode = p.cfg0.run ∧ s.c.forcePending = false ∧ s.c.delivered = false ∧
      s.c.halted = false ∧ s.c.cancel = false ∧ s.c.autoCount = 0 ∧ s.c.streamCount = 0 ∧
      s.c.phase = .check) ∧
    (s.err.count = 0 ∧ s.err.code = 0 ∧ s.err.cmd = 0 ∧ s.err.fatal = 0) ∧
    (s.blkq = [] ∧ s.pool = [] ∧ s.cmdq = [] ∧ s.rspq = []) ∧
    (s.bw.shadow = initHeader p s.cfg ∧ s.bw.filled = false ∧ s.bw.reqPending = false) ∧
    (s.semReq = 0 ∧ s.semResp = 0) ∧ (s.br.isOpen = false ∧ s.br.latched = false) ∧
    ∀ a, s.seg.read? a = (headerBytes s.bw.shadow)[a]?

/-- The invariant of the assembled core holds after reset, for every parameter record in the domain
of 00_scope.md R7 to R9: the engine is configured from `CFG0` by R172 to R176 of
42_trigger_engine.md, and every relation of 10_state.md R22, R24, R28, R47, R48 holds. -/
def Obligations.InvariantHoldsAtReset : Prop :=
  ∀ p : Params, p.valid = true → Inv (State.resetOf p)

/-- The invariant of the assembled core is kept by every step of every agent: bounds of `CFG` (10_state.md
R22), rings (R24), engine (R28), shadow header (R47), counters (R48), handshake (45_bridge.md R310),
published header (R289, R290), the region read in progress (R306) and the sequencer's place. -/
def Obligations.InvariantIsKept : Prop :=
  ∀ s t : State, Inv s → step s = .next t → Inv t

/-- In the assembled core no Fatal is raised and nothing faults: a step answers a next state that has
not halted, or the refusal of a consumer that re-opens with a request outstanding
(44_controller_sequencer.md R262; 45_bridge.md R289, R310). -/
def Obligations.FatalIsUnreachable : Prop :=
  ∀ s : State, Inv s →
    (∃ t, step s = .next t ∧ t.c.halted = false ∧ t.err.fatal = 0) ∨
    step s = .refused .reopenOutstanding

/-- The bounds of the configuration are kept by every step (10_state.md R21, R22), also by operations
issued directly. -/
def Obligations.ConfigurationBoundsAreKept : Prop :=
  ∀ s t : State, CfgInv s → step s = .next t → CfgInv t

/-- The countdown invariant of the engine is kept by every sample and by every step of the machine
(10_state.md R27, R28). -/
def Obligations.CountdownsMatchTheState : Prop :=
  (∀ (t : Trg) (x : Byte), EngineInv t → EngineInv (trgStep t x).1) ∧
  ∀ s t : State, EngineInv s.trg → step s = .next t → EngineInv t.trg

/-- The processing snapshot of the shadow header equals the `CFG` registers after every step
(10_state.md R47; 43_controller_commands.md R212). -/
def Obligations.ShadowFollowsConfiguration : Prop :=
  ∀ s t : State, s.bw.shadow.proc = procImage s.par s.cfg → step s = .next t →
    t.bw.shadow.proc = procImage t.par t.cfg

/-- The counter invariant `total = dropped + swaps + filled` of the shadow header is kept by every step
(45_bridge.md R290; 10_state.md R48). `swaps` is a ghost of the model, log 25. -/
def Obligations.AcquisitionsAreAccounted : Prop :=
  ∀ s t : State, CountInv s → step s = .next t → CountInv t

/-- The semaphore invariant is kept by every step of the assembled core (45_bridge.md R310); inside a
swap, between its publication and its release, the response is still due (`releasesDue`). Where no
release is due, each count is 0 or 1. -/
def Obligations.HandshakeIsKept : Prop :=
  (∀ s t : State, HandshakeInv s → s.uop = none → step s = .next t → HandshakeInv t) ∧
  ∀ s : State, HandshakeInv s → releasesDue s = 0 →
    s.br.latched.toNat = s.semReq + s.bw.reqPending.toNat + s.semResp ∧ s.semReq ≤ 1 ∧
      s.semResp ≤ 1

/-- The header in the segment changes only whole, to the shadow header, at a publication
(10_state.md R49; 45_bridge.md R288). -/
def Obligations.HeaderChangesOnlyByPublication : Prop :=
  ∀ s t : State, step s = .next t →
    (∀ a < 72, t.seg.read? a = s.seg.read? a) ∨
    (∀ a < 72, t.seg.read? a = (headerBytes t.bw.shadow)[a]?)

/-- The regions exchange roles only by a swap, with a request cached and the acquiring region filled
(45_bridge.md R287, R291). -/
def Obligations.RolesChangeOnlyWhenFilled : Prop :=
  ∀ s t : State, s.uop = none → step s = .next t →
    t.bw.shadow.activeRegion ≠ s.bw.shadow.activeRegion →
    s.bw.filled = true ∧ s.bw.reqPending = true ∧ t.bw.filled = false ∧
      t.bw.reqPending = false ∧ t.bw.swaps = s.bw.swaps + 1 ∧
      ∀ a < 72, t.seg.read? a = (headerBytes t.bw.shadow)[a]?

/-- No tearing: while the consumer is in its read window, no step of any agent changes a byte of the
published header or of the region it reads (45_bridge.md R308, R311). -/
def Obligations.ReadWindowIsStable : Prop :=
  ∀ (s t : State) (base : Nat), Inv s → s.br.inWindow = true → step s = .next t →
    t.br.inWindow = true →
    regionBase s.par (otherRegion (headerOfBytes (publishedHeader s)).activeRegion) = some base →
    (∀ a < 72, t.seg.read? a = s.seg.read? a) ∧
    ∀ a, base ≤ a → a < base + regionBytes s.par → t.seg.read? a = s.seg.read? a

/-- Ownership: each agent's turn changes only what 60_exceptions.md R346 lets it write. Of the segment,
`CTL` writes the header by publication and, of a region, in one turn at most the one byte its next store
of `Deliver` names, at the address in the acquiring region that `Deliver` computes (45_bridge.md R284;
20_memory.md R90). `CON` draws a free value only by a byte read. A turn that is not enabled changes
nothing (log 14); the free draws, the side ports, the read in progress and the work list are the model's
own, log 8, log 11, log 16 and log 13. -/
def Obligations.AgentsTouchOnlyWhatTheyOwn : Prop :=
  ∀ (turn : Turn) (s t : State), runTurn turn s = .next t →
    match turn with
    | .src block =>
      t =
        if block.length = s.par.blockBytes ∧ s.blkq.length < s.par.blkqDepth then
          { s with blkq := s.blkq ++ [block] }
        else s
    | .srcTake => t = { s with pool := s.pool.tail }
    | .hostCmd w =>
      t = if s.cmdq.length < s.par.cmdqDepth then { s with cmdq := s.cmdq ++ [w] } else s
    | .hostTake => t = { s with rspq := s.rspq.tail }
    | .hostCancel => t = { s with c := { s.c with cancel := true } }
    | .con _ =>
      t = { s with br := t.br, semReq := t.semReq, port := t.port } ∧ s.semReq ≤ t.semReq
    | .conWait =>
      t = { s with br := t.br, semResp := t.semResp, port := t.port } ∧ t.semResp ≤ s.semResp
    | .conRead =>
      t =
        { s with
          br := { s.br with reading := t.br.reading }
          port := { s.port with bytes := t.port.bytes }
          free := t.free }
    | .ctl =>
      (t.br = s.br ∧ t.port = s.port ∧ t.par = s.par ∧ t.c.cancel = s.c.cancel ∧
        t.uop = s.uop ∧ t.agenda = s.agenda ∧ t.turnNo = s.turnNo ∧ t.segGen = s.segGen) ∧
      (t.semReq ≤ s.semReq ∧ s.semResp ≤ t.semResp ∧ (t.blkq = s.blkq ∨ t.blkq = s.blkq.tail) ∧
        (t.cmdq = s.cmdq ∨ t.cmdq = s.cmdq.tail) ∧ (∃ done, t.pool = s.pool ++ done) ∧
        ∃ answers, t.rspq = s.rspq ++ answers) ∧
      ((∀ a < 72, t.seg.read? a = s.seg.read? a) ∨
        (∀ a < 72, t.seg.read? a = (headerBytes t.bw.shadow)[a]?)) ∧
      ∀ a, 72 ≤ a →
        (∀ c k b bytes work, s.c.todo = .storeBytes c k (b :: bytes) :: work →
          ∀ base, regionBase s.par s.bw.shadow.activeRegion = some base → a ≠ windowAddr s base c k) →
        t.seg.read? a = s.seg.read? a

/-- Each flag of 10_state.md R31 is set, and cleared, only by what its row names: `C.runMode` by `RUN`,
`STOP` and a delivery in Single mode; `C.forcePending` by `FORCE` and its service; `C.delivered` by
`Deliver` and the start of step 3; `C.halted` by a Fatal of `Deliver`, and never cleared; `C.cancel` by
`HOST`, and never cleared; `BW.filled` by `BRG.DATA_WRITTEN` and a swap; `BW.reqPending` by a taken
request and a swap; `BR.latched` by a raised request and a satisfied wait (or the first `RDR.OPEN`,
45_bridge.md R298). The micro-steps named are those of the work list `C.todo`, log 13. -/
def Obligations.FlagsAreSetOnlyByTheirOwners : Prop :=
  ∀ s t : State, s.uop = none → step s = .next t →
    ((s.c.runMode = false → t.c.runMode = true → AtCommand .run s) ∧
     (s.c.runMode = true → t.c.runMode = false →
       AtCommand .stop s ∨
         (s.cfg.mode = .single ∧ ((∃ es, AtMicro (.endDelivered es) s) ∨ AtMicro .forceServed s)))) ∧
    ((s.c.forcePending = false → t.c.forcePending = true → AtCommand .force s) ∧
     (s.c.forcePending = true → t.c.forcePending = false →
       (AtMicro .serviceForce s ∧ s.c.delivered = true) ∨ AtMicro .forceServed s)) ∧
    ((s.c.delivered = false → t.c.delivered = true → AtMicro .markDelivered s) ∧
     (s.c.delivered = true → t.c.delivered = false →
       nextTurn s = .ctl ∧ s.c.todo = [] ∧ s.c.phase = .feed)) ∧
    ((s.c.halted = false → t.c.halted = true →
       (((∃ endOffset trig, AtMicro (.copyWindow endOffset trig) s) ∨
           (∃ c k b bytes, AtMicro (.storeBytes c k (b :: bytes)) s)) ∧ t.err.fatal = 0x81) ∨
         ((∃ endOffset c, AtMicro (.readWindow endOffset c) s) ∧ t.err.fatal = 0x80)) ∧
     (s.c.halted = true → t.c.halted = true)) ∧
    ((s.c.cancel = false → t.c.cancel = true → nextTurn s = .hostCancel) ∧
     (s.c.cancel = true → t.c.cancel = true)) ∧
    ((s.bw.filled = false → t.bw.filled = true → ∃ trig, AtMicro (.dataWritten trig) s) ∧
     (s.bw.filled = true → t.bw.filled = false →
       AtMicro .swapPublish s ∧ s.bw.reqPending = true ∧ t.bw.swaps = s.bw.swaps + 1)) ∧
    ((s.bw.reqPending = false → t.bw.reqPending = true →
       AtMicro .swapPoll s ∧ s.semReq = t.semReq + 1) ∧
     (s.bw.reqPending = true → t.bw.reqPending = false →
       AtMicro .swapPublish s ∧ s.bw.filled = true ∧ t.bw.swaps = s.bw.swaps + 1)) ∧
    ((s.br.latched = false → t.br.latched = true →
       (∃ timeout, nextTurn s = .con (.requestAndWait timeout)) ∧ t.semReq = s.semReq + 1) ∧
     (s.br.latched = true → t.br.latched = false →
       (nextTurn s = .conWait ∧ s.semResp = t.semResp + 1) ∨
         (nextTurn s = .con .openBridge ∧ s.br.isOpen = false)))

/-- Every memory of the machine keeps its canonical form through every step, and no step changes the
parameters (10_state.md R57). The form is the model's, log 8. -/
def Obligations.MemoriesStayCanonical : Prop :=
  (∀ s t : State, MemoriesCanonical s → step s = .next t → MemoriesCanonical t) ∧
  ∀ s t : State, step s = .next t → t.par = s.par

/-- The turns of the other agents, each a step of its own. `SRC` enqueues a block of `BLOCK_BYTES` bytes
exactly when `BLKQ` has room, and takes one back from `POOL`; `HOST` enqueues a command word exactly
when `CMDQ` has room, takes a response, and raises `C.cancel` (00_scope.md R6; 10_state.md R40;
20_memory.md R98; 70_reset_and_hazards.md R372). A reader inside no other operation runs the one it
issues; one that waits can only be satisfied, exactly when `SEM.resp > 0`, or time out (20_memory.md
R93); one that reads a region goes on with its bytes, one a turn (R90). That the turns are read off
`State.agenda` is log 6, that a turn that is not enabled changes nothing is log 14, and that the read in
progress stands in `BR.reading` is log 16: the model's choices. -/
def Obligations.AgentTurnsComplete : Prop :=
  ∀ (s s' : State) (rest : List Turn), s.par.valid = true → s.uop = none →
    s' = { s with agenda := rest } →
    ((∀ block, s.agenda = .src block :: rest →
        step s =
          .next
            (if block.length = s.par.blockBytes ∧ s.blkq.length < s.par.blkqDepth then
              { s' with blkq := s.blkq ++ [block] }
            else s')) ∧
     (s.agenda = .srcTake :: rest → step s = .next { s' with pool := s.pool.drop 1 })) ∧
    ((∀ w, s.agenda = .hostCmd w :: rest →
        step s =
          .next
            (if s.cmdq.length < s.par.cmdqDepth then { s' with cmdq := s.cmdq ++ [w] } else s')) ∧
     (s.agenda = .hostTake :: rest → step s = .next { s' with rspq := s.rspq.drop 1 }) ∧
     (s.agenda = .hostCancel :: rest → step s = .next { s' with c := { s.c with cancel := true } })) ∧
    (∀ op, s.agenda = .con op :: rest →
      (s.br.waiting = true ∨ s.br.reading ≠ none → step s = .next s') ∧
      (s.br.waiting = false → s.br.reading = none →
        (op = .openBridge → step s = exec .rdrOpen s') ∧
        (∀ timeout, op = .requestAndWait timeout →
          step s =
            exec .rdrRequestAndWait { s' with port := { s.port with timeout := timeout } }) ∧
        (op = .readHeader → step s = exec .rdrReadHeader s') ∧
        (op = .readRegion → step s = exec .rdrReadRegion s'))) ∧
    (s.agenda = .conRead :: rest →
      (s.br.reading = none → step s = .next s') ∧
      (s.br.reading ≠ none → step s = exec .rdrReadRegion s')) ∧
    (s.agenda = .conWait :: rest →
      (s.br.waiting = false → step s = .next s') ∧
      (s.br.waiting = true → 0 < s.semResp →
        step s =
          .next
            { s' with
              semResp := s.semResp - 1
              br := { s.br with latched := false, waiting := false, inWindow := true }
              port := { s.port with satisfied := true } }) ∧
      (s.br.waiting = true → s.semResp = 0 →
        step s =
          .next
            { s' with
              br := { s.br with waiting := false }
              port := { s.port with satisfied := false } }))
end

