-- ==== Sys2Proof/Laws/Memory.lean ====
section
/-!
SUPPORT. The laws of byte memory: what a read gives after a write, and that every write keeps the
canonical form.
-/

namespace Sys2Proof.Machine

@[simp] theorem Memory.read_nil (a : Nat) : Memory.read? [] a = none := rfl

theorem Memory.read_write_same (m : Memory) (a : Nat) (b : Byte) :
    Memory.read? (Memory.write m a b) a = some b := by
  induction m with
  | nil => simp [Memory.write, Memory.read?]
  | cons c rest ih =>
    obtain ⟨k, v⟩ := c
    by_cases h₁ : k < a
    · simp [Memory.write, Memory.read?, h₁, ih, Nat.ne_of_lt h₁]
    · by_cases h₂ : k = a <;> simp [Memory.write, Memory.read?, h₁, h₂]

theorem Memory.read_write_ne (m : Memory) {a a' : Nat} (b : Byte) (h : a' ≠ a) :
    Memory.read? (Memory.write m a b) a' = Memory.read? m a' := by
  induction m with
  | nil => simp [Memory.write, Memory.read?, Ne.symm h]
  | cons c rest ih =>
    obtain ⟨k, v⟩ := c
    by_cases h₁ : k < a
    · simp [Memory.write, Memory.read?, h₁, ih]
    · by_cases h₂ : k = a
      · subst h₂
        simp [Memory.write, Memory.read?, Ne.symm h]
      · simp [Memory.write, Memory.read?, h₁, h₂, Ne.symm h]

/-- One byte written: a read gives the byte at its address and what was there elsewhere. -/
theorem Memory.read_write (m : Memory) (a a' : Nat) (b : Byte) :
    Memory.read? (Memory.write m a b) a' = if a' = a then some b else Memory.read? m a' := by
  by_cases h : a' = a
  · simp [h, Memory.read_write_same]
  · simp [h, Memory.read_write_ne m b h]

theorem Memory.mem_write {m : Memory} {a : Nat} {b : Byte} {c : Host.Cell}
    (h : c ∈ Memory.write m a b) : c = (a, b) ∨ c ∈ m := by
  induction m with
  | nil => exact .inl (by simpa [Memory.write] using h)
  | cons d rest ih =>
    obtain ⟨k, v⟩ := d
    by_cases h₁ : k < a
    · simp only [Memory.write, h₁, if_true, List.mem_cons] at h
      rcases h with h | h
      · exact .inr (h ▸ List.mem_cons_self)
      · exact (ih h).imp_right (List.mem_cons_of_mem _)
    · by_cases h₂ : k = a
      · simp only [Memory.write, h₂, lt_irrefl, if_false, if_true, List.mem_cons] at h
        exact h.imp_right (List.mem_cons_of_mem _)
      · simp only [Memory.write, h₁, h₂, if_false, List.mem_cons] at h
        exact h.imp_right fun h => List.mem_cons.2 h

/-- A write keeps the canonical form. -/
theorem Memory.write_wf {m : Memory} (h : Memory.wf m) (a : Nat) (b : Byte) :
    Memory.wf (Memory.write m a b) := by
  induction m with
  | nil => simp [Memory.write, Memory.wf]
  | cons d rest ih =>
    obtain ⟨k, v⟩ := d
    obtain ⟨hk, hr⟩ := List.pairwise_cons.1 h
    by_cases h₁ : k < a
    · simp only [Memory.write, h₁, if_true]
      refine List.pairwise_cons.2 ⟨fun c hc => ?_, ih hr⟩
      rcases Memory.mem_write hc with rfl | hc
      exacts [h₁, hk c hc]
    · by_cases h₂ : k = a
      · subst h₂
        simp only [Memory.write, lt_irrefl, if_false, if_true]
        exact List.pairwise_cons.2 ⟨hk, hr⟩
      · simp only [Memory.write, h₁, h₂, if_false]
        have hak : a < k := by omega
        refine List.pairwise_cons.2 ⟨fun c hc => ?_, h⟩
        rcases List.mem_cons.1 hc with rfl | hc
        exacts [hak, hak.trans (hk c hc)]

/-- Consecutive bytes written: a read gives the byte stored at an address of the range and what was
there elsewhere. -/
theorem Memory.read_writeBytes (m : Memory) (a a' : Nat) (bs : List Byte) :
    Memory.read? (Memory.writeBytes m a bs) a' =
      if a ≤ a' ∧ a' < a + bs.length then bs[a' - a]? else Memory.read? m a' := by
  induction bs generalizing m a with
  | nil => rw [Memory.writeBytes, if_neg (by simp)]
  | cons b bs ih =>
    rw [Memory.writeBytes, ih, Memory.read_write]
    by_cases h : a' = a
    · subst h; simp
    · by_cases h₂ : a + 1 ≤ a' ∧ a' < a + 1 + bs.length
      · have e : a' - a = (a' - (a + 1)) + 1 := by omega
        have h₃ : a ≤ a' ∧ a' < a + (b :: bs).length := by simp only [List.length_cons]; omega
        rw [if_pos h₂, if_pos h₃, e, List.getElem?_cons_succ]
      · have h₃ : ¬(a ≤ a' ∧ a' < a + (b :: bs).length) := by simp only [List.length_cons]; omega
        rw [if_neg h₂, if_neg h₃, if_neg h]

theorem Memory.mem_writeBytes {m : Memory} {a : Nat} {bs : List Byte} {c : Host.Cell}
    (h : c ∈ Memory.writeBytes m a bs) : (a ≤ c.1 ∧ c.1 < a + bs.length) ∨ c ∈ m := by
  induction bs generalizing m a with
  | nil => exact .inr h
  | cons b bs ih =>
    rcases ih h with ⟨h₁, h₂⟩ | h₁
    · exact .inl ⟨by omega, by simp only [List.length_cons]; omega⟩
    · rcases Memory.mem_write h₁ with rfl | h₁
      · exact .inl ⟨le_refl _, by simp⟩
      · exact .inr h₁

/-- Writing consecutive bytes keeps the canonical form. -/
theorem Memory.writeBytes_wf {m : Memory} (h : Memory.wf m) (a : Nat) (bs : List Byte) :
    Memory.wf (Memory.writeBytes m a bs) := by
  induction bs generalizing m a with
  | nil => exact h
  | cons b bs ih => exact ih (Memory.write_wf h a b) (a + 1)

@[simp] theorem Memory.readBytes_length (m : Memory) (a n : Nat) :
    (Memory.readBytes m a n).length = n := by simp [Memory.readBytes]

/-- The memory `State.reset` starts with is canonical, for every parameter record. -/
theorem resetOf_memories_wf (p : Params) :
    Memory.wf (State.resetOf p).seg ∧ ∀ c : Fin 4, Memory.wf (State.resetOf p).rb[c].mem := by
  constructor
  · simp only [State.resetOf]
    exact Memory.writeBytes_wf List.Pairwise.nil _ _
  · intro c
    simp [State.resetOf, ringConfigured, Memory.wf]

end Sys2Proof.Machine
end

