-- ==== Sys2Proof/Laws/Ring.lean ====
section
/-!
SUPPORT. What the operations of a ring do to its cells (41_ring_buffer.md).
-/

namespace Sys2Proof.Machine

/-- The writes of `RB.WRITE` keep the canonical form. -/
theorem writeSamples_wf (cap : Nat) {m : Memory} (h : Memory.wf m) (k : Nat) (lane : List Byte) :
    Memory.wf (writeSamples cap m k lane) := by
  induction lane generalizing m k with
  | nil => exact h
  | cons x xs ih => exact ih (Memory.write_wf h _ _) _

/-- A cell no sample of the lane goes to keeps its contents. -/
theorem read_writeSamples_of_ne (cap : Nat) (m : Memory) (k : Nat) (lane : List Byte) {a : Nat}
    (h : ∀ j < lane.length, (k + j) % cap ≠ a) :
    Memory.read? (writeSamples cap m k lane) a = Memory.read? m a := by
  induction lane generalizing m k with
  | nil => rfl
  | cons x xs ih =>
    rw [writeSamples, ih, Memory.read_write_ne]
    · exact (h 0 (by simp)).symm
    · intro j hj
      have := h (j + 1) (by simpa using hj)
      rwa [Nat.add_assoc, Nat.add_comm 1 j]

/-- The loop of `RB.WRITE` over two lanes in a row is the loop over their concatenation. -/
theorem writeSamples_append (cap : Nat) (m : Memory) (k : Nat) (l₁ l₂ : List Byte) :
    writeSamples cap m k (l₁ ++ l₂) =
      writeSamples cap (writeSamples cap m k l₁) (k + l₁.length) l₂ := by
  induction l₁ generalizing m k with
  | nil => rfl
  | cons x xs ih =>
    simp only [List.cons_append, writeSamples, ih, List.length_cons]
    congr 1
    omega

@[simp] theorem ringWritten_cap (r : Ring) (lane : List Byte) : (ringWritten r lane).cap = r.cap :=
  rfl

@[simp] theorem windowCells_length (r : Ring) (len endOffset : Nat) :
    (windowCells r len endOffset).length = len := by simp [windowCells]

theorem ringWritten_wf {r : Ring} (h : Memory.wf r.mem) (lane : List Byte) :
    Memory.wf (ringWritten r lane).mem := writeSamples_wf _ h _ _

end Sys2Proof.Machine
end

