-- ==== Sys2Proof/Laws/State.lean ====
section
/-!
SUPPORT. What each named update of the state does to each field: one lemma per field per update, true
by definition, so that no proof unfolds an update.
-/

namespace Sys2Proof.Machine

variable (s : State)

/-! ### `raiseConfigError` -/

@[simp] theorem raiseConfigError_par (code : Byte) (cmd : Word64) :
    (raiseConfigError code cmd s).par = s.par := rfl
@[simp] theorem raiseConfigError_cfg (code : Byte) (cmd : Word64) :
    (raiseConfigError code cmd s).cfg = s.cfg := rfl
@[simp] theorem raiseConfigError_rb (code : Byte) (cmd : Word64) :
    (raiseConfigError code cmd s).rb = s.rb := rfl
@[simp] theorem raiseConfigError_trg (code : Byte) (cmd : Word64) :
    (raiseConfigError code cmd s).trg = s.trg := rfl
@[simp] theorem raiseConfigError_c (code : Byte) (cmd : Word64) :
    (raiseConfigError code cmd s).c = s.c := rfl
@[simp] theorem raiseConfigError_err (code : Byte) (cmd : Word64) :
    (raiseConfigError code cmd s).err = { s.err with count := s.err.count + 1, code := code, cmd := cmd } := rfl
@[simp] theorem raiseConfigError_bw (code : Byte) (cmd : Word64) :
    (raiseConfigError code cmd s).bw = s.bw := rfl
@[simp] theorem raiseConfigError_seg (code : Byte) (cmd : Word64) :
    (raiseConfigError code cmd s).seg = s.seg := rfl
@[simp] theorem raiseConfigError_semReq (code : Byte) (cmd : Word64) :
    (raiseConfigError code cmd s).semReq = s.semReq := rfl
@[simp] theorem raiseConfigError_semResp (code : Byte) (cmd : Word64) :
    (raiseConfigError code cmd s).semResp = s.semResp := rfl
@[simp] theorem raiseConfigError_br (code : Byte) (cmd : Word64) :
    (raiseConfigError code cmd s).br = s.br := rfl
@[simp] theorem raiseConfigError_blkq (code : Byte) (cmd : Word64) :
    (raiseConfigError code cmd s).blkq = s.blkq := rfl
@[simp] theorem raiseConfigError_pool (code : Byte) (cmd : Word64) :
    (raiseConfigError code cmd s).pool = s.pool := rfl
@[simp] theorem raiseConfigError_cmdq (code : Byte) (cmd : Word64) :
    (raiseConfigError code cmd s).cmdq = s.cmdq := rfl
@[simp] theorem raiseConfigError_segGen (code : Byte) (cmd : Word64) :
    (raiseConfigError code cmd s).segGen = s.segGen := rfl
@[simp] theorem raiseConfigError_rspq (code : Byte) (cmd : Word64) :
    (raiseConfigError code cmd s).rspq = s.rspq := rfl
@[simp] theorem raiseConfigError_port (code : Byte) (cmd : Word64) :
    (raiseConfigError code cmd s).port = s.port := rfl
@[simp] theorem raiseConfigError_uop (code : Byte) (cmd : Word64) :
    (raiseConfigError code cmd s).uop = s.uop := rfl
@[simp] theorem raiseConfigError_agenda (code : Byte) (cmd : Word64) :
    (raiseConfigError code cmd s).agenda = s.agenda := rfl
@[simp] theorem raiseConfigError_turnNo (code : Byte) (cmd : Word64) :
    (raiseConfigError code cmd s).turnNo = s.turnNo := rfl
@[simp] theorem raiseConfigError_free (code : Byte) (cmd : Word64) :
    (raiseConfigError code cmd s).free = s.free := rfl

/-! ### `raiseFatal` -/

@[simp] theorem raiseFatal_par (code : Byte) : (raiseFatal code s).par = s.par := rfl
@[simp] theorem raiseFatal_cfg (code : Byte) : (raiseFatal code s).cfg = s.cfg := rfl
@[simp] theorem raiseFatal_rb (code : Byte) : (raiseFatal code s).rb = s.rb := rfl
@[simp] theorem raiseFatal_trg (code : Byte) : (raiseFatal code s).trg = s.trg := rfl
@[simp] theorem raiseFatal_c (code : Byte) :
    (raiseFatal code s).c = { s.c with halted := true } := rfl
@[simp] theorem raiseFatal_err (code : Byte) :
    (raiseFatal code s).err = { s.err with fatal := code } := rfl
@[simp] theorem raiseFatal_bw (code : Byte) : (raiseFatal code s).bw = s.bw := rfl
@[simp] theorem raiseFatal_seg (code : Byte) : (raiseFatal code s).seg = s.seg := rfl
@[simp] theorem raiseFatal_semReq (code : Byte) : (raiseFatal code s).semReq = s.semReq := rfl
@[simp] theorem raiseFatal_semResp (code : Byte) : (raiseFatal code s).semResp = s.semResp := rfl
@[simp] theorem raiseFatal_br (code : Byte) : (raiseFatal code s).br = s.br := rfl
@[simp] theorem raiseFatal_blkq (code : Byte) : (raiseFatal code s).blkq = s.blkq := rfl
@[simp] theorem raiseFatal_pool (code : Byte) : (raiseFatal code s).pool = s.pool := rfl
@[simp] theorem raiseFatal_cmdq (code : Byte) : (raiseFatal code s).cmdq = s.cmdq := rfl
@[simp] theorem raiseFatal_segGen (code : Byte) : (raiseFatal code s).segGen = s.segGen := rfl
@[simp] theorem raiseFatal_rspq (code : Byte) : (raiseFatal code s).rspq = s.rspq := rfl
@[simp] theorem raiseFatal_port (code : Byte) : (raiseFatal code s).port = s.port := rfl
@[simp] theorem raiseFatal_uop (code : Byte) : (raiseFatal code s).uop = s.uop := rfl
@[simp] theorem raiseFatal_agenda (code : Byte) : (raiseFatal code s).agenda = s.agenda := rfl
@[simp] theorem raiseFatal_turnNo (code : Byte) : (raiseFatal code s).turnNo = s.turnNo := rfl
@[simp] theorem raiseFatal_free (code : Byte) : (raiseFatal code s).free = s.free := rfl

/-! ### `drawn` -/

@[simp] theorem drawn_par (n : Nat) : (drawn n s).par = s.par := rfl
@[simp] theorem drawn_cfg (n : Nat) : (drawn n s).cfg = s.cfg := rfl
@[simp] theorem drawn_rb (n : Nat) : (drawn n s).rb = s.rb := rfl
@[simp] theorem drawn_trg (n : Nat) : (drawn n s).trg = s.trg := rfl
@[simp] theorem drawn_c (n : Nat) : (drawn n s).c = s.c := rfl
@[simp] theorem drawn_err (n : Nat) : (drawn n s).err = s.err := rfl
@[simp] theorem drawn_bw (n : Nat) : (drawn n s).bw = s.bw := rfl
@[simp] theorem drawn_seg (n : Nat) : (drawn n s).seg = s.seg := rfl
@[simp] theorem drawn_semReq (n : Nat) : (drawn n s).semReq = s.semReq := rfl
@[simp] theorem drawn_semResp (n : Nat) : (drawn n s).semResp = s.semResp := rfl
@[simp] theorem drawn_br (n : Nat) : (drawn n s).br = s.br := rfl
@[simp] theorem drawn_blkq (n : Nat) : (drawn n s).blkq = s.blkq := rfl
@[simp] theorem drawn_pool (n : Nat) : (drawn n s).pool = s.pool := rfl
@[simp] theorem drawn_cmdq (n : Nat) : (drawn n s).cmdq = s.cmdq := rfl
@[simp] theorem drawn_segGen (n : Nat) : (drawn n s).segGen = s.segGen := rfl
@[simp] theorem drawn_rspq (n : Nat) : (drawn n s).rspq = s.rspq := rfl
@[simp] theorem drawn_port (n : Nat) : (drawn n s).port = s.port := rfl
@[simp] theorem drawn_uop (n : Nat) : (drawn n s).uop = s.uop := rfl
@[simp] theorem drawn_agenda (n : Nat) : (drawn n s).agenda = s.agenda := rfl
@[simp] theorem drawn_turnNo (n : Nat) : (drawn n s).turnNo = s.turnNo := rfl
@[simp] theorem drawn_free (n : Nat) : (drawn n s).free = s.free + n := rfl

/-! ### `withRing` -/

@[simp] theorem withRing_par (ch : Fin 4) (r : Ring) : (withRing ch r s).par = s.par := rfl
@[simp] theorem withRing_cfg (ch : Fin 4) (r : Ring) : (withRing ch r s).cfg = s.cfg := rfl
@[simp] theorem withRing_rb (ch : Fin 4) (r : Ring) : (withRing ch r s).rb = s.rb.set ch r := rfl
@[simp] theorem withRing_trg (ch : Fin 4) (r : Ring) : (withRing ch r s).trg = s.trg := rfl
@[simp] theorem withRing_c (ch : Fin 4) (r : Ring) : (withRing ch r s).c = s.c := rfl
@[simp] theorem withRing_err (ch : Fin 4) (r : Ring) : (withRing ch r s).err = s.err := rfl
@[simp] theorem withRing_bw (ch : Fin 4) (r : Ring) : (withRing ch r s).bw = s.bw := rfl
@[simp] theorem withRing_seg (ch : Fin 4) (r : Ring) : (withRing ch r s).seg = s.seg := rfl
@[simp] theorem withRing_semReq (ch : Fin 4) (r : Ring) : (withRing ch r s).semReq = s.semReq := rfl
@[simp] theorem withRing_semResp (ch : Fin 4) (r : Ring) :
    (withRing ch r s).semResp = s.semResp := rfl
@[simp] theorem withRing_br (ch : Fin 4) (r : Ring) : (withRing ch r s).br = s.br := rfl
@[simp] theorem withRing_blkq (ch : Fin 4) (r : Ring) : (withRing ch r s).blkq = s.blkq := rfl
@[simp] theorem withRing_pool (ch : Fin 4) (r : Ring) : (withRing ch r s).pool = s.pool := rfl
@[simp] theorem withRing_cmdq (ch : Fin 4) (r : Ring) : (withRing ch r s).cmdq = s.cmdq := rfl
@[simp] theorem withRing_segGen (ch : Fin 4) (r : Ring) : (withRing ch r s).segGen = s.segGen := rfl
@[simp] theorem withRing_rspq (ch : Fin 4) (r : Ring) : (withRing ch r s).rspq = s.rspq := rfl
@[simp] theorem withRing_port (ch : Fin 4) (r : Ring) : (withRing ch r s).port = s.port := rfl
@[simp] theorem withRing_uop (ch : Fin 4) (r : Ring) : (withRing ch r s).uop = s.uop := rfl
@[simp] theorem withRing_agenda (ch : Fin 4) (r : Ring) : (withRing ch r s).agenda = s.agenda := rfl
@[simp] theorem withRing_turnNo (ch : Fin 4) (r : Ring) : (withRing ch r s).turnNo = s.turnNo := rfl
@[simp] theorem withRing_free (ch : Fin 4) (r : Ring) : (withRing ch r s).free = s.free := rfl

/-! ### `withTrg` -/

@[simp] theorem withTrg_par (t : Trg) : (withTrg t s).par = s.par := rfl
@[simp] theorem withTrg_cfg (t : Trg) : (withTrg t s).cfg = s.cfg := rfl
@[simp] theorem withTrg_rb (t : Trg) : (withTrg t s).rb = s.rb := rfl
@[simp] theorem withTrg_trg (t : Trg) : (withTrg t s).trg = t := rfl
@[simp] theorem withTrg_c (t : Trg) : (withTrg t s).c = s.c := rfl
@[simp] theorem withTrg_err (t : Trg) : (withTrg t s).err = s.err := rfl
@[simp] theorem withTrg_bw (t : Trg) : (withTrg t s).bw = s.bw := rfl
@[simp] theorem withTrg_seg (t : Trg) : (withTrg t s).seg = s.seg := rfl
@[simp] theorem withTrg_semReq (t : Trg) : (withTrg t s).semReq = s.semReq := rfl
@[simp] theorem withTrg_semResp (t : Trg) : (withTrg t s).semResp = s.semResp := rfl
@[simp] theorem withTrg_br (t : Trg) : (withTrg t s).br = s.br := rfl
@[simp] theorem withTrg_blkq (t : Trg) : (withTrg t s).blkq = s.blkq := rfl
@[simp] theorem withTrg_pool (t : Trg) : (withTrg t s).pool = s.pool := rfl
@[simp] theorem withTrg_cmdq (t : Trg) : (withTrg t s).cmdq = s.cmdq := rfl
@[simp] theorem withTrg_segGen (t : Trg) : (withTrg t s).segGen = s.segGen := rfl
@[simp] theorem withTrg_rspq (t : Trg) : (withTrg t s).rspq = s.rspq := rfl
@[simp] theorem withTrg_port (t : Trg) : (withTrg t s).port = s.port := rfl
@[simp] theorem withTrg_uop (t : Trg) : (withTrg t s).uop = s.uop := rfl
@[simp] theorem withTrg_agenda (t : Trg) : (withTrg t s).agenda = s.agenda := rfl
@[simp] theorem withTrg_turnNo (t : Trg) : (withTrg t s).turnNo = s.turnNo := rfl
@[simp] theorem withTrg_free (t : Trg) : (withTrg t s).free = s.free := rfl

/-! ### `shadowProc` -/

@[simp] theorem shadowProc_par (f : ProcSnapshot → ProcSnapshot) :
    (shadowProc f s).par = s.par := rfl
@[simp] theorem shadowProc_cfg (f : ProcSnapshot → ProcSnapshot) :
    (shadowProc f s).cfg = s.cfg := rfl
@[simp] theorem shadowProc_rb (f : ProcSnapshot → ProcSnapshot) : (shadowProc f s).rb = s.rb := rfl
@[simp] theorem shadowProc_trg (f : ProcSnapshot → ProcSnapshot) :
    (shadowProc f s).trg = s.trg := rfl
@[simp] theorem shadowProc_c (f : ProcSnapshot → ProcSnapshot) : (shadowProc f s).c = s.c := rfl
@[simp] theorem shadowProc_err (f : ProcSnapshot → ProcSnapshot) :
    (shadowProc f s).err = s.err := rfl
@[simp] theorem shadowProc_bw (f : ProcSnapshot → ProcSnapshot) :
    (shadowProc f s).bw = { s.bw with shadow := { s.bw.shadow with proc := f s.bw.shadow.proc } } := rfl
@[simp] theorem shadowProc_seg (f : ProcSnapshot → ProcSnapshot) :
    (shadowProc f s).seg = s.seg := rfl
@[simp] theorem shadowProc_semReq (f : ProcSnapshot → ProcSnapshot) :
    (shadowProc f s).semReq = s.semReq := rfl
@[simp] theorem shadowProc_semResp (f : ProcSnapshot → ProcSnapshot) :
    (shadowProc f s).semResp = s.semResp := rfl
@[simp] theorem shadowProc_br (f : ProcSnapshot → ProcSnapshot) : (shadowProc f s).br = s.br := rfl
@[simp] theorem shadowProc_blkq (f : ProcSnapshot → ProcSnapshot) :
    (shadowProc f s).blkq = s.blkq := rfl
@[simp] theorem shadowProc_pool (f : ProcSnapshot → ProcSnapshot) :
    (shadowProc f s).pool = s.pool := rfl
@[simp] theorem shadowProc_cmdq (f : ProcSnapshot → ProcSnapshot) :
    (shadowProc f s).cmdq = s.cmdq := rfl
@[simp] theorem shadowProc_segGen (f : ProcSnapshot → ProcSnapshot) :
    (shadowProc f s).segGen = s.segGen := rfl
@[simp] theorem shadowProc_rspq (f : ProcSnapshot → ProcSnapshot) :
    (shadowProc f s).rspq = s.rspq := rfl
@[simp] theorem shadowProc_port (f : ProcSnapshot → ProcSnapshot) :
    (shadowProc f s).port = s.port := rfl
@[simp] theorem shadowProc_uop (f : ProcSnapshot → ProcSnapshot) :
    (shadowProc f s).uop = s.uop := rfl
@[simp] theorem shadowProc_agenda (f : ProcSnapshot → ProcSnapshot) :
    (shadowProc f s).agenda = s.agenda := rfl
@[simp] theorem shadowProc_turnNo (f : ProcSnapshot → ProcSnapshot) :
    (shadowProc f s).turnNo = s.turnNo := rfl
@[simp] theorem shadowProc_free (f : ProcSnapshot → ProcSnapshot) :
    (shadowProc f s).free = s.free := rfl

/-! ### `publish` -/

@[simp] theorem publish_par : (publish s).par = s.par := by simp only [publish]
@[simp] theorem publish_cfg : (publish s).cfg = s.cfg := by simp only [publish]
@[simp] theorem publish_rb : (publish s).rb = s.rb := by simp only [publish]
@[simp] theorem publish_trg : (publish s).trg = s.trg := by simp only [publish]
@[simp] theorem publish_c : (publish s).c = s.c := by simp only [publish]
@[simp] theorem publish_err : (publish s).err = s.err := by simp only [publish]
@[simp] theorem publish_bw : (publish s).bw = s.bw := by simp only [publish]
@[simp] theorem publish_seg : (publish s).seg = s.seg.writeBytes 0 (headerBytes s.bw.shadow) := by simp only [publish]
@[simp] theorem publish_semReq : (publish s).semReq = s.semReq := by simp only [publish]
@[simp] theorem publish_semResp : (publish s).semResp = s.semResp := by simp only [publish]
@[simp] theorem publish_br : (publish s).br = s.br := by simp only [publish]
@[simp] theorem publish_blkq : (publish s).blkq = s.blkq := by simp only [publish]
@[simp] theorem publish_pool : (publish s).pool = s.pool := by simp only [publish]
@[simp] theorem publish_cmdq : (publish s).cmdq = s.cmdq := by simp only [publish]
@[simp] theorem publish_segGen : (publish s).segGen = s.segGen := by simp only [publish]
@[simp] theorem publish_rspq : (publish s).rspq = s.rspq := by simp only [publish]
@[simp] theorem publish_port : (publish s).port = s.port := by simp only [publish]
@[simp] theorem publish_uop : (publish s).uop = s.uop := by simp only [publish]
@[simp] theorem publish_agenda : (publish s).agenda = s.agenda := by simp only [publish]
@[simp] theorem publish_turnNo : (publish s).turnNo = s.turnNo := by simp only [publish]
@[simp] theorem publish_free : (publish s).free = s.free := by simp only [publish]

/-! ### `swapRelease` -/

@[simp] theorem swapRelease_par : (swapRelease s).par = s.par := rfl
@[simp] theorem swapRelease_cfg : (swapRelease s).cfg = s.cfg := rfl
@[simp] theorem swapRelease_rb : (swapRelease s).rb = s.rb := rfl
@[simp] theorem swapRelease_trg : (swapRelease s).trg = s.trg := rfl
@[simp] theorem swapRelease_c : (swapRelease s).c = s.c := rfl
@[simp] theorem swapRelease_err : (swapRelease s).err = s.err := rfl
@[simp] theorem swapRelease_bw : (swapRelease s).bw = s.bw := rfl
@[simp] theorem swapRelease_seg : (swapRelease s).seg = s.seg := rfl
@[simp] theorem swapRelease_semReq : (swapRelease s).semReq = s.semReq := rfl
@[simp] theorem swapRelease_semResp : (swapRelease s).semResp = s.semResp + 1 := rfl
@[simp] theorem swapRelease_br : (swapRelease s).br = s.br := rfl
@[simp] theorem swapRelease_blkq : (swapRelease s).blkq = s.blkq := rfl
@[simp] theorem swapRelease_pool : (swapRelease s).pool = s.pool := rfl
@[simp] theorem swapRelease_cmdq : (swapRelease s).cmdq = s.cmdq := rfl
@[simp] theorem swapRelease_segGen : (swapRelease s).segGen = s.segGen := rfl
@[simp] theorem swapRelease_rspq : (swapRelease s).rspq = s.rspq := rfl
@[simp] theorem swapRelease_port : (swapRelease s).port = s.port := rfl
@[simp] theorem swapRelease_uop : (swapRelease s).uop = s.uop := rfl
@[simp] theorem swapRelease_agenda : (swapRelease s).agenda = s.agenda := rfl
@[simp] theorem swapRelease_turnNo : (swapRelease s).turnNo = s.turnNo := rfl
@[simp] theorem swapRelease_free : (swapRelease s).free = s.free := rfl

/-! ### `markDelivered` -/

@[simp] theorem markDelivered_par : (markDelivered s).par = s.par := rfl
@[simp] theorem markDelivered_cfg : (markDelivered s).cfg = s.cfg := rfl
@[simp] theorem markDelivered_rb : (markDelivered s).rb = s.rb := rfl
@[simp] theorem markDelivered_trg : (markDelivered s).trg = s.trg := rfl
@[simp] theorem markDelivered_c :
    (markDelivered s).c = { s.c with autoCount := 0, delivered := true } := rfl
@[simp] theorem markDelivered_err : (markDelivered s).err = s.err := rfl
@[simp] theorem markDelivered_bw : (markDelivered s).bw = s.bw := rfl
@[simp] theorem markDelivered_seg : (markDelivered s).seg = s.seg := rfl
@[simp] theorem markDelivered_semReq : (markDelivered s).semReq = s.semReq := rfl
@[simp] theorem markDelivered_semResp : (markDelivered s).semResp = s.semResp := rfl
@[simp] theorem markDelivered_br : (markDelivered s).br = s.br := rfl
@[simp] theorem markDelivered_blkq : (markDelivered s).blkq = s.blkq := rfl
@[simp] theorem markDelivered_pool : (markDelivered s).pool = s.pool := rfl
@[simp] theorem markDelivered_cmdq : (markDelivered s).cmdq = s.cmdq := rfl
@[simp] theorem markDelivered_segGen : (markDelivered s).segGen = s.segGen := rfl
@[simp] theorem markDelivered_rspq : (markDelivered s).rspq = s.rspq := rfl
@[simp] theorem markDelivered_port : (markDelivered s).port = s.port := rfl
@[simp] theorem markDelivered_uop : (markDelivered s).uop = s.uop := rfl
@[simp] theorem markDelivered_agenda : (markDelivered s).agenda = s.agenda := rfl
@[simp] theorem markDelivered_turnNo : (markDelivered s).turnNo = s.turnNo := rfl
@[simp] theorem markDelivered_free : (markDelivered s).free = s.free := rfl

/-! ### `readHeader` -/

@[simp] theorem readHeader_par : (readHeader s).par = s.par := rfl
@[simp] theorem readHeader_cfg : (readHeader s).cfg = s.cfg := rfl
@[simp] theorem readHeader_rb : (readHeader s).rb = s.rb := rfl
@[simp] theorem readHeader_trg : (readHeader s).trg = s.trg := rfl
@[simp] theorem readHeader_c : (readHeader s).c = s.c := rfl
@[simp] theorem readHeader_err : (readHeader s).err = s.err := rfl
@[simp] theorem readHeader_bw : (readHeader s).bw = s.bw := rfl
@[simp] theorem readHeader_seg : (readHeader s).seg = s.seg := rfl
@[simp] theorem readHeader_semReq : (readHeader s).semReq = s.semReq := rfl
@[simp] theorem readHeader_semResp : (readHeader s).semResp = s.semResp := rfl
@[simp] theorem readHeader_br : (readHeader s).br = { s.br with hdr := publishedHeader s } := rfl
@[simp] theorem readHeader_blkq : (readHeader s).blkq = s.blkq := rfl
@[simp] theorem readHeader_pool : (readHeader s).pool = s.pool := rfl
@[simp] theorem readHeader_cmdq : (readHeader s).cmdq = s.cmdq := rfl
@[simp] theorem readHeader_segGen : (readHeader s).segGen = s.segGen := rfl
@[simp] theorem readHeader_rspq : (readHeader s).rspq = s.rspq := rfl
@[simp] theorem readHeader_port : (readHeader s).port = s.port := rfl
@[simp] theorem readHeader_uop : (readHeader s).uop = s.uop := rfl
@[simp] theorem readHeader_agenda : (readHeader s).agenda = s.agenda := rfl
@[simp] theorem readHeader_turnNo : (readHeader s).turnNo = s.turnNo := rfl
@[simp] theorem readHeader_free : (readHeader s).free = s.free := rfl

/-! ### `withTodo` -/

@[simp] theorem withTodo_par (todo : List Micro) : (withTodo todo s).par = s.par := rfl
@[simp] theorem withTodo_cfg (todo : List Micro) : (withTodo todo s).cfg = s.cfg := rfl
@[simp] theorem withTodo_rb (todo : List Micro) : (withTodo todo s).rb = s.rb := rfl
@[simp] theorem withTodo_trg (todo : List Micro) : (withTodo todo s).trg = s.trg := rfl
@[simp] theorem withTodo_c (todo : List Micro) :
    (withTodo todo s).c = { s.c with todo := todo } := rfl
@[simp] theorem withTodo_err (todo : List Micro) : (withTodo todo s).err = s.err := rfl
@[simp] theorem withTodo_bw (todo : List Micro) : (withTodo todo s).bw = s.bw := rfl
@[simp] theorem withTodo_seg (todo : List Micro) : (withTodo todo s).seg = s.seg := rfl
@[simp] theorem withTodo_semReq (todo : List Micro) : (withTodo todo s).semReq = s.semReq := rfl
@[simp] theorem withTodo_semResp (todo : List Micro) : (withTodo todo s).semResp = s.semResp := rfl
@[simp] theorem withTodo_br (todo : List Micro) : (withTodo todo s).br = s.br := rfl
@[simp] theorem withTodo_blkq (todo : List Micro) : (withTodo todo s).blkq = s.blkq := rfl
@[simp] theorem withTodo_pool (todo : List Micro) : (withTodo todo s).pool = s.pool := rfl
@[simp] theorem withTodo_cmdq (todo : List Micro) : (withTodo todo s).cmdq = s.cmdq := rfl
@[simp] theorem withTodo_segGen (todo : List Micro) : (withTodo todo s).segGen = s.segGen := rfl
@[simp] theorem withTodo_rspq (todo : List Micro) : (withTodo todo s).rspq = s.rspq := rfl
@[simp] theorem withTodo_port (todo : List Micro) : (withTodo todo s).port = s.port := rfl
@[simp] theorem withTodo_uop (todo : List Micro) : (withTodo todo s).uop = s.uop := rfl
@[simp] theorem withTodo_agenda (todo : List Micro) : (withTodo todo s).agenda = s.agenda := rfl
@[simp] theorem withTodo_turnNo (todo : List Micro) : (withTodo todo s).turnNo = s.turnNo := rfl
@[simp] theorem withTodo_free (todo : List Micro) : (withTodo todo s).free = s.free := rfl

/-! ### `gotoPhase` -/

@[simp] theorem gotoPhase_par (p : Phase) : (gotoPhase p s).par = s.par := rfl
@[simp] theorem gotoPhase_cfg (p : Phase) : (gotoPhase p s).cfg = s.cfg := rfl
@[simp] theorem gotoPhase_rb (p : Phase) : (gotoPhase p s).rb = s.rb := rfl
@[simp] theorem gotoPhase_trg (p : Phase) : (gotoPhase p s).trg = s.trg := rfl
@[simp] theorem gotoPhase_c (p : Phase) : (gotoPhase p s).c = { s.c with phase := p } := rfl
@[simp] theorem gotoPhase_err (p : Phase) : (gotoPhase p s).err = s.err := rfl
@[simp] theorem gotoPhase_bw (p : Phase) : (gotoPhase p s).bw = s.bw := rfl
@[simp] theorem gotoPhase_seg (p : Phase) : (gotoPhase p s).seg = s.seg := rfl
@[simp] theorem gotoPhase_semReq (p : Phase) : (gotoPhase p s).semReq = s.semReq := rfl
@[simp] theorem gotoPhase_semResp (p : Phase) : (gotoPhase p s).semResp = s.semResp := rfl
@[simp] theorem gotoPhase_br (p : Phase) : (gotoPhase p s).br = s.br := rfl
@[simp] theorem gotoPhase_blkq (p : Phase) : (gotoPhase p s).blkq = s.blkq := rfl
@[simp] theorem gotoPhase_pool (p : Phase) : (gotoPhase p s).pool = s.pool := rfl
@[simp] theorem gotoPhase_cmdq (p : Phase) : (gotoPhase p s).cmdq = s.cmdq := rfl
@[simp] theorem gotoPhase_segGen (p : Phase) : (gotoPhase p s).segGen = s.segGen := rfl
@[simp] theorem gotoPhase_rspq (p : Phase) : (gotoPhase p s).rspq = s.rspq := rfl
@[simp] theorem gotoPhase_port (p : Phase) : (gotoPhase p s).port = s.port := rfl
@[simp] theorem gotoPhase_uop (p : Phase) : (gotoPhase p s).uop = s.uop := rfl
@[simp] theorem gotoPhase_agenda (p : Phase) : (gotoPhase p s).agenda = s.agenda := rfl
@[simp] theorem gotoPhase_turnNo (p : Phase) : (gotoPhase p s).turnNo = s.turnNo := rfl
@[simp] theorem gotoPhase_free (p : Phase) : (gotoPhase p s).free = s.free := rfl

/-! ### `dataWritten` -/

@[simp] theorem dataWritten_par (trig : Bool) : (dataWritten trig s).par = s.par := rfl
@[simp] theorem dataWritten_cfg (trig : Bool) : (dataWritten trig s).cfg = s.cfg := rfl
@[simp] theorem dataWritten_rb (trig : Bool) : (dataWritten trig s).rb = s.rb := rfl
@[simp] theorem dataWritten_trg (trig : Bool) : (dataWritten trig s).trg = s.trg := rfl
@[simp] theorem dataWritten_c (trig : Bool) : (dataWritten trig s).c = s.c := rfl
@[simp] theorem dataWritten_err (trig : Bool) : (dataWritten trig s).err = s.err := rfl
@[simp] theorem dataWritten_seg (trig : Bool) : (dataWritten trig s).seg = s.seg := rfl
@[simp] theorem dataWritten_semReq (trig : Bool) : (dataWritten trig s).semReq = s.semReq := rfl
@[simp] theorem dataWritten_semResp (trig : Bool) : (dataWritten trig s).semResp = s.semResp := rfl
@[simp] theorem dataWritten_br (trig : Bool) : (dataWritten trig s).br = s.br := rfl
@[simp] theorem dataWritten_blkq (trig : Bool) : (dataWritten trig s).blkq = s.blkq := rfl
@[simp] theorem dataWritten_pool (trig : Bool) : (dataWritten trig s).pool = s.pool := rfl
@[simp] theorem dataWritten_cmdq (trig : Bool) : (dataWritten trig s).cmdq = s.cmdq := rfl
@[simp] theorem dataWritten_segGen (trig : Bool) : (dataWritten trig s).segGen = s.segGen := rfl
@[simp] theorem dataWritten_rspq (trig : Bool) : (dataWritten trig s).rspq = s.rspq := rfl
@[simp] theorem dataWritten_port (trig : Bool) : (dataWritten trig s).port = s.port := rfl
@[simp] theorem dataWritten_uop (trig : Bool) : (dataWritten trig s).uop = s.uop := rfl
@[simp] theorem dataWritten_agenda (trig : Bool) : (dataWritten trig s).agenda = s.agenda := rfl
@[simp] theorem dataWritten_turnNo (trig : Bool) : (dataWritten trig s).turnNo = s.turnNo := rfl
@[simp] theorem dataWritten_free (trig : Bool) : (dataWritten trig s).free = s.free := rfl

/-! ### `swapPublish` -/

@[simp] theorem swapPublish_par : (swapPublish s).par = s.par := rfl
@[simp] theorem swapPublish_cfg : (swapPublish s).cfg = s.cfg := rfl
@[simp] theorem swapPublish_rb : (swapPublish s).rb = s.rb := rfl
@[simp] theorem swapPublish_trg : (swapPublish s).trg = s.trg := rfl
@[simp] theorem swapPublish_c : (swapPublish s).c = s.c := rfl
@[simp] theorem swapPublish_err : (swapPublish s).err = s.err := rfl
@[simp] theorem swapPublish_semReq : (swapPublish s).semReq = s.semReq := rfl
@[simp] theorem swapPublish_semResp : (swapPublish s).semResp = s.semResp := rfl
@[simp] theorem swapPublish_br : (swapPublish s).br = s.br := rfl
@[simp] theorem swapPublish_blkq : (swapPublish s).blkq = s.blkq := rfl
@[simp] theorem swapPublish_pool : (swapPublish s).pool = s.pool := rfl
@[simp] theorem swapPublish_cmdq : (swapPublish s).cmdq = s.cmdq := rfl
@[simp] theorem swapPublish_segGen : (swapPublish s).segGen = s.segGen := rfl
@[simp] theorem swapPublish_rspq : (swapPublish s).rspq = s.rspq := rfl
@[simp] theorem swapPublish_port : (swapPublish s).port = s.port := rfl
@[simp] theorem swapPublish_uop : (swapPublish s).uop = s.uop := rfl
@[simp] theorem swapPublish_agenda : (swapPublish s).agenda = s.agenda := rfl
@[simp] theorem swapPublish_turnNo : (swapPublish s).turnNo = s.turnNo := rfl
@[simp] theorem swapPublish_free : (swapPublish s).free = s.free := rfl

/-! ### `requestStep` -/

@[simp] theorem requestStep_par : (requestStep s).par = s.par := rfl
@[simp] theorem requestStep_cfg : (requestStep s).cfg = s.cfg := rfl
@[simp] theorem requestStep_rb : (requestStep s).rb = s.rb := rfl
@[simp] theorem requestStep_trg : (requestStep s).trg = s.trg := rfl
@[simp] theorem requestStep_c : (requestStep s).c = s.c := rfl
@[simp] theorem requestStep_err : (requestStep s).err = s.err := rfl
@[simp] theorem requestStep_bw : (requestStep s).bw = s.bw := rfl
@[simp] theorem requestStep_seg : (requestStep s).seg = s.seg := rfl
@[simp] theorem requestStep_semResp : (requestStep s).semResp = s.semResp := rfl
@[simp] theorem requestStep_br :
    (requestStep s).br = { s.br with latched := true, waiting := true, inWindow := false } := rfl
@[simp] theorem requestStep_blkq : (requestStep s).blkq = s.blkq := rfl
@[simp] theorem requestStep_pool : (requestStep s).pool = s.pool := rfl
@[simp] theorem requestStep_cmdq : (requestStep s).cmdq = s.cmdq := rfl
@[simp] theorem requestStep_segGen : (requestStep s).segGen = s.segGen := rfl
@[simp] theorem requestStep_rspq : (requestStep s).rspq = s.rspq := rfl
@[simp] theorem requestStep_port : (requestStep s).port = s.port := rfl
@[simp] theorem requestStep_uop : (requestStep s).uop = s.uop := rfl
@[simp] theorem requestStep_agenda : (requestStep s).agenda = s.agenda := rfl
@[simp] theorem requestStep_turnNo : (requestStep s).turnNo = s.turnNo := rfl
@[simp] theorem requestStep_free : (requestStep s).free = s.free := rfl

/-! ### `resetEngine` -/

@[simp] theorem resetEngine_par : (resetEngine s).par = s.par := rfl
@[simp] theorem resetEngine_cfg : (resetEngine s).cfg = s.cfg := rfl
@[simp] theorem resetEngine_rb : (resetEngine s).rb = s.rb := rfl
@[simp] theorem resetEngine_c : (resetEngine s).c = s.c := rfl
@[simp] theorem resetEngine_err : (resetEngine s).err = s.err := rfl
@[simp] theorem resetEngine_bw : (resetEngine s).bw = s.bw := rfl
@[simp] theorem resetEngine_seg : (resetEngine s).seg = s.seg := rfl
@[simp] theorem resetEngine_semReq : (resetEngine s).semReq = s.semReq := rfl
@[simp] theorem resetEngine_semResp : (resetEngine s).semResp = s.semResp := rfl
@[simp] theorem resetEngine_br : (resetEngine s).br = s.br := rfl
@[simp] theorem resetEngine_blkq : (resetEngine s).blkq = s.blkq := rfl
@[simp] theorem resetEngine_pool : (resetEngine s).pool = s.pool := rfl
@[simp] theorem resetEngine_cmdq : (resetEngine s).cmdq = s.cmdq := rfl
@[simp] theorem resetEngine_segGen : (resetEngine s).segGen = s.segGen := rfl
@[simp] theorem resetEngine_rspq : (resetEngine s).rspq = s.rspq := rfl
@[simp] theorem resetEngine_port : (resetEngine s).port = s.port := rfl
@[simp] theorem resetEngine_uop : (resetEngine s).uop = s.uop := rfl
@[simp] theorem resetEngine_agenda : (resetEngine s).agenda = s.agenda := rfl
@[simp] theorem resetEngine_turnNo : (resetEngine s).turnNo = s.turnNo := rfl
@[simp] theorem resetEngine_free : (resetEngine s).free = s.free := rfl

/-! ### `setEdge` -/

@[simp] theorem setEdge_par (edge : Edge) : (setEdge edge s).par = s.par := rfl
@[simp] theorem setEdge_cfg (edge : Edge) : (setEdge edge s).cfg = s.cfg := rfl
@[simp] theorem setEdge_rb (edge : Edge) : (setEdge edge s).rb = s.rb := rfl
@[simp] theorem setEdge_c (edge : Edge) : (setEdge edge s).c = s.c := rfl
@[simp] theorem setEdge_err (edge : Edge) : (setEdge edge s).err = s.err := rfl
@[simp] theorem setEdge_bw (edge : Edge) : (setEdge edge s).bw = s.bw := rfl
@[simp] theorem setEdge_seg (edge : Edge) : (setEdge edge s).seg = s.seg := rfl
@[simp] theorem setEdge_semReq (edge : Edge) : (setEdge edge s).semReq = s.semReq := rfl
@[simp] theorem setEdge_semResp (edge : Edge) : (setEdge edge s).semResp = s.semResp := rfl
@[simp] theorem setEdge_br (edge : Edge) : (setEdge edge s).br = s.br := rfl
@[simp] theorem setEdge_blkq (edge : Edge) : (setEdge edge s).blkq = s.blkq := rfl
@[simp] theorem setEdge_pool (edge : Edge) : (setEdge edge s).pool = s.pool := rfl
@[simp] theorem setEdge_cmdq (edge : Edge) : (setEdge edge s).cmdq = s.cmdq := rfl
@[simp] theorem setEdge_segGen (edge : Edge) : (setEdge edge s).segGen = s.segGen := rfl
@[simp] theorem setEdge_rspq (edge : Edge) : (setEdge edge s).rspq = s.rspq := rfl
@[simp] theorem setEdge_port (edge : Edge) : (setEdge edge s).port = s.port := rfl
@[simp] theorem setEdge_uop (edge : Edge) : (setEdge edge s).uop = s.uop := rfl
@[simp] theorem setEdge_agenda (edge : Edge) : (setEdge edge s).agenda = s.agenda := rfl
@[simp] theorem setEdge_turnNo (edge : Edge) : (setEdge edge s).turnNo = s.turnNo := rfl
@[simp] theorem setEdge_free (edge : Edge) : (setEdge edge s).free = s.free := rfl

/-! ### `processLane` -/

@[simp] theorem processLane_par (lane : List Byte) : (processLane lane s).par = s.par := rfl
@[simp] theorem processLane_cfg (lane : List Byte) : (processLane lane s).cfg = s.cfg := rfl
@[simp] theorem processLane_rb (lane : List Byte) : (processLane lane s).rb = s.rb := rfl
@[simp] theorem processLane_c (lane : List Byte) : (processLane lane s).c = s.c := rfl
@[simp] theorem processLane_err (lane : List Byte) : (processLane lane s).err = s.err := rfl
@[simp] theorem processLane_bw (lane : List Byte) : (processLane lane s).bw = s.bw := rfl
@[simp] theorem processLane_seg (lane : List Byte) : (processLane lane s).seg = s.seg := rfl
@[simp] theorem processLane_semReq (lane : List Byte) :
    (processLane lane s).semReq = s.semReq := rfl
@[simp] theorem processLane_semResp (lane : List Byte) :
    (processLane lane s).semResp = s.semResp := rfl
@[simp] theorem processLane_br (lane : List Byte) : (processLane lane s).br = s.br := rfl
@[simp] theorem processLane_blkq (lane : List Byte) : (processLane lane s).blkq = s.blkq := rfl
@[simp] theorem processLane_pool (lane : List Byte) : (processLane lane s).pool = s.pool := rfl
@[simp] theorem processLane_cmdq (lane : List Byte) : (processLane lane s).cmdq = s.cmdq := rfl
@[simp] theorem processLane_segGen (lane : List Byte) : (processLane lane s).segGen = s.segGen := rfl
@[simp] theorem processLane_rspq (lane : List Byte) : (processLane lane s).rspq = s.rspq := rfl
@[simp] theorem processLane_port (lane : List Byte) : (processLane lane s).port = s.port := rfl
@[simp] theorem processLane_uop (lane : List Byte) : (processLane lane s).uop = s.uop := rfl
@[simp] theorem processLane_agenda (lane : List Byte) :
    (processLane lane s).agenda = s.agenda := rfl
@[simp] theorem processLane_turnNo (lane : List Byte) :
    (processLane lane s).turnNo = s.turnNo := rfl
@[simp] theorem processLane_free (lane : List Byte) : (processLane lane s).free = s.free := rfl

/-! ### `configureRing` -/

@[simp] theorem configureRing_par (cap : BitVec 33) (ch : Fin 4) :
    (configureRing cap ch s).par = s.par := rfl
@[simp] theorem configureRing_cfg (cap : BitVec 33) (ch : Fin 4) :
    (configureRing cap ch s).cfg = s.cfg := rfl
@[simp] theorem configureRing_trg (cap : BitVec 33) (ch : Fin 4) :
    (configureRing cap ch s).trg = s.trg := rfl
@[simp] theorem configureRing_c (cap : BitVec 33) (ch : Fin 4) :
    (configureRing cap ch s).c = s.c := rfl
@[simp] theorem configureRing_err (cap : BitVec 33) (ch : Fin 4) :
    (configureRing cap ch s).err = s.err := rfl
@[simp] theorem configureRing_bw (cap : BitVec 33) (ch : Fin 4) :
    (configureRing cap ch s).bw = s.bw := rfl
@[simp] theorem configureRing_seg (cap : BitVec 33) (ch : Fin 4) :
    (configureRing cap ch s).seg = s.seg := rfl
@[simp] theorem configureRing_semReq (cap : BitVec 33) (ch : Fin 4) :
    (configureRing cap ch s).semReq = s.semReq := rfl
@[simp] theorem configureRing_semResp (cap : BitVec 33) (ch : Fin 4) :
    (configureRing cap ch s).semResp = s.semResp := rfl
@[simp] theorem configureRing_br (cap : BitVec 33) (ch : Fin 4) :
    (configureRing cap ch s).br = s.br := rfl
@[simp] theorem configureRing_blkq (cap : BitVec 33) (ch : Fin 4) :
    (configureRing cap ch s).blkq = s.blkq := rfl
@[simp] theorem configureRing_pool (cap : BitVec 33) (ch : Fin 4) :
    (configureRing cap ch s).pool = s.pool := rfl
@[simp] theorem configureRing_cmdq (cap : BitVec 33) (ch : Fin 4) :
    (configureRing cap ch s).cmdq = s.cmdq := rfl
@[simp] theorem configureRing_segGen (cap : BitVec 33) (ch : Fin 4) :
    (configureRing cap ch s).segGen = s.segGen := rfl
@[simp] theorem configureRing_rspq (cap : BitVec 33) (ch : Fin 4) :
    (configureRing cap ch s).rspq = s.rspq := rfl
@[simp] theorem configureRing_port (cap : BitVec 33) (ch : Fin 4) :
    (configureRing cap ch s).port = s.port := rfl
@[simp] theorem configureRing_uop (cap : BitVec 33) (ch : Fin 4) :
    (configureRing cap ch s).uop = s.uop := rfl
@[simp] theorem configureRing_agenda (cap : BitVec 33) (ch : Fin 4) :
    (configureRing cap ch s).agenda = s.agenda := rfl
@[simp] theorem configureRing_turnNo (cap : BitVec 33) (ch : Fin 4) :
    (configureRing cap ch s).turnNo = s.turnNo := rfl
@[simp] theorem configureRing_free (cap : BitVec 33) (ch : Fin 4) :
    (configureRing cap ch s).free = s.free := rfl

/-! ### `setVertical` -/

@[simp] theorem setVertical_par (level hyst : Byte) :
    (setVertical level hyst s).par = s.par := by unfold setVertical; split <;> rfl
@[simp] theorem setVertical_cfg (level hyst : Byte) :
    (setVertical level hyst s).cfg = s.cfg := by unfold setVertical; split <;> rfl
@[simp] theorem setVertical_rb (level hyst : Byte) :
    (setVertical level hyst s).rb = s.rb := by unfold setVertical; split <;> rfl
@[simp] theorem setVertical_c (level hyst : Byte) :
    (setVertical level hyst s).c = s.c := by unfold setVertical; split <;> rfl
@[simp] theorem setVertical_bw (level hyst : Byte) :
    (setVertical level hyst s).bw = s.bw := by unfold setVertical; split <;> rfl
@[simp] theorem setVertical_seg (level hyst : Byte) :
    (setVertical level hyst s).seg = s.seg := by unfold setVertical; split <;> rfl
@[simp] theorem setVertical_semReq (level hyst : Byte) :
    (setVertical level hyst s).semReq = s.semReq := by unfold setVertical; split <;> rfl
@[simp] theorem setVertical_semResp (level hyst : Byte) :
    (setVertical level hyst s).semResp = s.semResp := by unfold setVertical; split <;> rfl
@[simp] theorem setVertical_br (level hyst : Byte) :
    (setVertical level hyst s).br = s.br := by unfold setVertical; split <;> rfl
@[simp] theorem setVertical_blkq (level hyst : Byte) :
    (setVertical level hyst s).blkq = s.blkq := by unfold setVertical; split <;> rfl
@[simp] theorem setVertical_pool (level hyst : Byte) :
    (setVertical level hyst s).pool = s.pool := by unfold setVertical; split <;> rfl
@[simp] theorem setVertical_cmdq (level hyst : Byte) :
    (setVertical level hyst s).cmdq = s.cmdq := by unfold setVertical; split <;> rfl
@[simp] theorem setVertical_segGen (level hyst : Byte) :
    (setVertical level hyst s).segGen = s.segGen := by unfold setVertical; split <;> rfl
@[simp] theorem setVertical_rspq (level hyst : Byte) :
    (setVertical level hyst s).rspq = s.rspq := by unfold setVertical; split <;> rfl
@[simp] theorem setVertical_port (level hyst : Byte) :
    (setVertical level hyst s).port = s.port := by unfold setVertical; split <;> rfl
@[simp] theorem setVertical_uop (level hyst : Byte) :
    (setVertical level hyst s).uop = s.uop := by unfold setVertical; split <;> rfl
@[simp] theorem setVertical_agenda (level hyst : Byte) :
    (setVertical level hyst s).agenda = s.agenda := by unfold setVertical; split <;> rfl
@[simp] theorem setVertical_turnNo (level hyst : Byte) :
    (setVertical level hyst s).turnNo = s.turnNo := by unfold setVertical; split <;> rfl
@[simp] theorem setVertical_free (level hyst : Byte) :
    (setVertical level hyst s).free = s.free := by unfold setVertical; split <;> rfl

/-! ### `setHorizontal` -/

@[simp] theorem setHorizontal_par (W pos add : BitVec 32) :
    (setHorizontal W pos add s).par = s.par := by unfold setHorizontal; split <;> rfl
@[simp] theorem setHorizontal_cfg (W pos add : BitVec 32) :
    (setHorizontal W pos add s).cfg = s.cfg := by unfold setHorizontal; split <;> rfl
@[simp] theorem setHorizontal_rb (W pos add : BitVec 32) :
    (setHorizontal W pos add s).rb = s.rb := by unfold setHorizontal; split <;> rfl
@[simp] theorem setHorizontal_c (W pos add : BitVec 32) :
    (setHorizontal W pos add s).c = s.c := by unfold setHorizontal; split <;> rfl
@[simp] theorem setHorizontal_bw (W pos add : BitVec 32) :
    (setHorizontal W pos add s).bw = s.bw := by unfold setHorizontal; split <;> rfl
@[simp] theorem setHorizontal_seg (W pos add : BitVec 32) :
    (setHorizontal W pos add s).seg = s.seg := by unfold setHorizontal; split <;> rfl
@[simp] theorem setHorizontal_semReq (W pos add : BitVec 32) :
    (setHorizontal W pos add s).semReq = s.semReq := by unfold setHorizontal; split <;> rfl
@[simp] theorem setHorizontal_semResp (W pos add : BitVec 32) :
    (setHorizontal W pos add s).semResp = s.semResp := by unfold setHorizontal; split <;> rfl
@[simp] theorem setHorizontal_br (W pos add : BitVec 32) :
    (setHorizontal W pos add s).br = s.br := by unfold setHorizontal; split <;> rfl
@[simp] theorem setHorizontal_blkq (W pos add : BitVec 32) :
    (setHorizontal W pos add s).blkq = s.blkq := by unfold setHorizontal; split <;> rfl
@[simp] theorem setHorizontal_pool (W pos add : BitVec 32) :
    (setHorizontal W pos add s).pool = s.pool := by unfold setHorizontal; split <;> rfl
@[simp] theorem setHorizontal_cmdq (W pos add : BitVec 32) :
    (setHorizontal W pos add s).cmdq = s.cmdq := by unfold setHorizontal; split <;> rfl
@[simp] theorem setHorizontal_segGen (W pos add : BitVec 32) :
    (setHorizontal W pos add s).segGen = s.segGen := by unfold setHorizontal; split <;> rfl
@[simp] theorem setHorizontal_rspq (W pos add : BitVec 32) :
    (setHorizontal W pos add s).rspq = s.rspq := by unfold setHorizontal; split <;> rfl
@[simp] theorem setHorizontal_port (W pos add : BitVec 32) :
    (setHorizontal W pos add s).port = s.port := by unfold setHorizontal; split <;> rfl
@[simp] theorem setHorizontal_uop (W pos add : BitVec 32) :
    (setHorizontal W pos add s).uop = s.uop := by unfold setHorizontal; split <;> rfl
@[simp] theorem setHorizontal_agenda (W pos add : BitVec 32) :
    (setHorizontal W pos add s).agenda = s.agenda := by unfold setHorizontal; split <;> rfl
@[simp] theorem setHorizontal_turnNo (W pos add : BitVec 32) :
    (setHorizontal W pos add s).turnNo = s.turnNo := by unfold setHorizontal; split <;> rfl
@[simp] theorem setHorizontal_free (W pos add : BitVec 32) :
    (setHorizontal W pos add s).free = s.free := by unfold setHorizontal; split <;> rfl

/-! ### `demux` -/

@[simp] theorem demux_par (n : Nat) : (demux n s).par = s.par := by unfold demux; split <;> rfl
@[simp] theorem demux_cfg (n : Nat) : (demux n s).cfg = s.cfg := by unfold demux; split <;> rfl
@[simp] theorem demux_rb (n : Nat) : (demux n s).rb = s.rb := by unfold demux; split <;> rfl
@[simp] theorem demux_trg (n : Nat) : (demux n s).trg = s.trg := by unfold demux; split <;> rfl
@[simp] theorem demux_bw (n : Nat) : (demux n s).bw = s.bw := by unfold demux; split <;> rfl
@[simp] theorem demux_seg (n : Nat) : (demux n s).seg = s.seg := by unfold demux; split <;> rfl
@[simp] theorem demux_semReq (n : Nat) :
    (demux n s).semReq = s.semReq := by unfold demux; split <;> rfl
@[simp] theorem demux_semResp (n : Nat) :
    (demux n s).semResp = s.semResp := by unfold demux; split <;> rfl
@[simp] theorem demux_br (n : Nat) : (demux n s).br = s.br := by unfold demux; split <;> rfl
@[simp] theorem demux_blkq (n : Nat) : (demux n s).blkq = s.blkq := by unfold demux; split <;> rfl
@[simp] theorem demux_pool (n : Nat) : (demux n s).pool = s.pool := by unfold demux; split <;> rfl
@[simp] theorem demux_cmdq (n : Nat) : (demux n s).cmdq = s.cmdq := by unfold demux; split <;> rfl
@[simp] theorem demux_segGen (n : Nat) : (demux n s).segGen = s.segGen := by unfold demux; split <;> rfl
@[simp] theorem demux_rspq (n : Nat) : (demux n s).rspq = s.rspq := by unfold demux; split <;> rfl
@[simp] theorem demux_port (n : Nat) : (demux n s).port = s.port := by unfold demux; split <;> rfl
@[simp] theorem demux_uop (n : Nat) : (demux n s).uop = s.uop := by unfold demux; split <;> rfl
@[simp] theorem demux_agenda (n : Nat) :
    (demux n s).agenda = s.agenda := by unfold demux; split <;> rfl
@[simp] theorem demux_turnNo (n : Nat) :
    (demux n s).turnNo = s.turnNo := by unfold demux; split <;> rfl

/-! ### `swapPoll` -/

@[simp] theorem swapPoll_par : (swapPoll s).par = s.par := by unfold swapPoll; split <;> rfl
@[simp] theorem swapPoll_cfg : (swapPoll s).cfg = s.cfg := by unfold swapPoll; split <;> rfl
@[simp] theorem swapPoll_rb : (swapPoll s).rb = s.rb := by unfold swapPoll; split <;> rfl
@[simp] theorem swapPoll_trg : (swapPoll s).trg = s.trg := by unfold swapPoll; split <;> rfl
@[simp] theorem swapPoll_c : (swapPoll s).c = s.c := by unfold swapPoll; split <;> rfl
@[simp] theorem swapPoll_err : (swapPoll s).err = s.err := by unfold swapPoll; split <;> rfl
@[simp] theorem swapPoll_seg : (swapPoll s).seg = s.seg := by unfold swapPoll; split <;> rfl
@[simp] theorem swapPoll_semResp :
    (swapPoll s).semResp = s.semResp := by unfold swapPoll; split <;> rfl
@[simp] theorem swapPoll_br : (swapPoll s).br = s.br := by unfold swapPoll; split <;> rfl
@[simp] theorem swapPoll_blkq : (swapPoll s).blkq = s.blkq := by unfold swapPoll; split <;> rfl
@[simp] theorem swapPoll_pool : (swapPoll s).pool = s.pool := by unfold swapPoll; split <;> rfl
@[simp] theorem swapPoll_cmdq : (swapPoll s).cmdq = s.cmdq := by unfold swapPoll; split <;> rfl
@[simp] theorem swapPoll_segGen : (swapPoll s).segGen = s.segGen := by unfold swapPoll; split <;> rfl
@[simp] theorem swapPoll_rspq : (swapPoll s).rspq = s.rspq := by unfold swapPoll; split <;> rfl
@[simp] theorem swapPoll_port : (swapPoll s).port = s.port := by unfold swapPoll; split <;> rfl
@[simp] theorem swapPoll_uop : (swapPoll s).uop = s.uop := by unfold swapPoll; split <;> rfl
@[simp] theorem swapPoll_agenda :
    (swapPoll s).agenda = s.agenda := by unfold swapPoll; split <;> rfl
@[simp] theorem swapPoll_turnNo :
    (swapPoll s).turnNo = s.turnNo := by unfold swapPoll; split <;> rfl
@[simp] theorem swapPoll_free : (swapPoll s).free = s.free := by unfold swapPoll; split <;> rfl

/-! ### `waitStep` -/

@[simp] theorem waitStep_par : (waitStep s).par = s.par := by unfold waitStep; split <;> rfl
@[simp] theorem waitStep_cfg : (waitStep s).cfg = s.cfg := by unfold waitStep; split <;> rfl
@[simp] theorem waitStep_rb : (waitStep s).rb = s.rb := by unfold waitStep; split <;> rfl
@[simp] theorem waitStep_trg : (waitStep s).trg = s.trg := by unfold waitStep; split <;> rfl
@[simp] theorem waitStep_c : (waitStep s).c = s.c := by unfold waitStep; split <;> rfl
@[simp] theorem waitStep_err : (waitStep s).err = s.err := by unfold waitStep; split <;> rfl
@[simp] theorem waitStep_bw : (waitStep s).bw = s.bw := by unfold waitStep; split <;> rfl
@[simp] theorem waitStep_seg : (waitStep s).seg = s.seg := by unfold waitStep; split <;> rfl
@[simp] theorem waitStep_semReq :
    (waitStep s).semReq = s.semReq := by unfold waitStep; split <;> rfl
@[simp] theorem waitStep_blkq : (waitStep s).blkq = s.blkq := by unfold waitStep; split <;> rfl
@[simp] theorem waitStep_pool : (waitStep s).pool = s.pool := by unfold waitStep; split <;> rfl
@[simp] theorem waitStep_cmdq : (waitStep s).cmdq = s.cmdq := by unfold waitStep; split <;> rfl
@[simp] theorem waitStep_segGen : (waitStep s).segGen = s.segGen := by unfold waitStep; split <;> rfl
@[simp] theorem waitStep_rspq : (waitStep s).rspq = s.rspq := by unfold waitStep; split <;> rfl
@[simp] theorem waitStep_uop : (waitStep s).uop = s.uop := by unfold waitStep; split <;> rfl
@[simp] theorem waitStep_agenda :
    (waitStep s).agenda = s.agenda := by unfold waitStep; split <;> rfl
@[simp] theorem waitStep_turnNo :
    (waitStep s).turnNo = s.turnNo := by unfold waitStep; split <;> rfl
@[simp] theorem waitStep_free : (waitStep s).free = s.free := by unfold waitStep; split <;> rfl

/-! ### `initBridge` -/

@[simp] theorem initBridge_par : (initBridge s).par = s.par := by simp only [initBridge, publish_par]
@[simp] theorem initBridge_cfg : (initBridge s).cfg = s.cfg := by simp only [initBridge, publish_cfg]
@[simp] theorem initBridge_rb : (initBridge s).rb = s.rb := by simp only [initBridge, publish_rb]
@[simp] theorem initBridge_trg : (initBridge s).trg = s.trg := by simp only [initBridge, publish_trg]
@[simp] theorem initBridge_c : (initBridge s).c = s.c := by simp only [initBridge, publish_c]
@[simp] theorem initBridge_err : (initBridge s).err = s.err := by simp only [initBridge, publish_err]
@[simp] theorem initBridge_br : (initBridge s).br = s.br := by simp only [initBridge, publish_br]
@[simp] theorem initBridge_blkq :
    (initBridge s).blkq = s.blkq := by simp only [initBridge, publish_blkq]
@[simp] theorem initBridge_pool :
    (initBridge s).pool = s.pool := by simp only [initBridge, publish_pool]
@[simp] theorem initBridge_cmdq :
    (initBridge s).cmdq = s.cmdq := by simp only [initBridge, publish_cmdq]
@[simp] theorem initBridge_segGen : (initBridge s).segGen = s.segGen + 1 := by
  simp only [initBridge, publish_segGen]
@[simp] theorem initBridge_rspq :
    (initBridge s).rspq = s.rspq := by simp only [initBridge, publish_rspq]
@[simp] theorem initBridge_port :
    (initBridge s).port = s.port := by simp only [initBridge, publish_port]
@[simp] theorem initBridge_uop : (initBridge s).uop = s.uop := by simp only [initBridge, publish_uop]
@[simp] theorem initBridge_agenda :
    (initBridge s).agenda = s.agenda := by simp only [initBridge, publish_agenda]
@[simp] theorem initBridge_turnNo :
    (initBridge s).turnNo = s.turnNo := by simp only [initBridge, publish_turnNo]
@[simp] theorem initBridge_free :
    (initBridge s).free = s.free := by simp only [initBridge, publish_free]

/-! ### The parts of the bridge writer that `dataWritten` and `swapPublish` change -/

@[simp] theorem dataWritten_filled (trig : Bool) : (dataWritten trig s).bw.filled = true := rfl
@[simp] theorem dataWritten_reqPending (trig : Bool) :
    (dataWritten trig s).bw.reqPending = s.bw.reqPending := rfl
@[simp] theorem dataWritten_swaps (trig : Bool) : (dataWritten trig s).bw.swaps = s.bw.swaps := rfl
@[simp] theorem dataWritten_total (trig : Bool) :
    (dataWritten trig s).bw.shadow.totalAcquisitions = s.bw.shadow.totalAcquisitions + 1 := rfl
@[simp] theorem dataWritten_proc (trig : Bool) :
    (dataWritten trig s).bw.shadow.proc = s.bw.shadow.proc := rfl
@[simp] theorem dataWritten_activeRegion (trig : Bool) :
    (dataWritten trig s).bw.shadow.activeRegion = s.bw.shadow.activeRegion := rfl
@[simp] theorem swapPublish_filled : (swapPublish s).bw.filled = false := rfl
@[simp] theorem swapPublish_reqPending : (swapPublish s).bw.reqPending = false := rfl
@[simp] theorem swapPublish_swaps : (swapPublish s).bw.swaps = s.bw.swaps + 1 := rfl
@[simp] theorem swapPublish_activeRegion :
    (swapPublish s).bw.shadow.activeRegion = otherRegion s.bw.shadow.activeRegion := rfl
@[simp] theorem swapPublish_proc : (swapPublish s).bw.shadow.proc = s.bw.shadow.proc := rfl
@[simp] theorem swapPublish_seg :
    (swapPublish s).seg = s.seg.writeBytes 0 (headerBytes (swapPublish s).bw.shadow) := by
  simp only [swapPublish, publish]
@[simp] theorem requestStep_semReq :
    (requestStep s).semReq = if s.br.latched then s.semReq else s.semReq + 1 := rfl

end Sys2Proof.Machine
end

