-- ==== Sys2Proof/Laws/Ops.lean ====
section
/-!
SUPPORT. For each shared operation over the state, one lemma that says everything it can do: later
proofs cite these and unfold no operation.
-/

namespace Sys2Proof.Machine

/-! ### Free values -/

@[simp] theorem fillFree_length (n : Nat) (cells : List (Option Byte)) :
    (fillFree n cells).length = cells.length := by simp [fillFree]

/-- A position that holds a value keeps it; only an unspecified one takes a free value. -/
theorem fillFree_getElem? (n : Nat) (cells : List (Option Byte)) (k : Nat) :
    (fillFree n cells)[k]? = cells[k]?.map fun b => b.getD (Config.freeByte (n + k)) := by
  simp [fillFree, List.getElem?_mapIdx]

/-! ### Semaphores and the bridge handshake -/

/-- What a swap poll can do (45_bridge.md R287). -/
theorem swapPoll_cases (s : State) :
    (s.bw.reqPending = true ∧ swapPoll s = s) ∨
    (s.bw.reqPending = false ∧ s.semReq = 0 ∧ swapPoll s = s) ∨
    (s.bw.reqPending = false ∧ 0 < s.semReq ∧
      swapPoll s = { s with semReq := s.semReq - 1, bw := { s.bw with reqPending := true } }) := by
  unfold swapPoll semTryWait
  cases h : s.bw.reqPending
  · by_cases h' : 0 < s.semReq
    · exact .inr (.inr ⟨rfl, h', by simp [h']⟩)
    · have h₀ : s.semReq = 0 := by omega
      refine .inr (.inl ⟨rfl, h₀, ?_⟩)
      obtain ⟨_, _, _, _, _, _, ⟨_, _, _, _⟩, _⟩ := s
      simp_all
  · exact .inl ⟨rfl, by simp⟩

/-- What `BRG.SWITCH_IF_NEEDED` can do (45_bridge.md R287). -/
theorem switchIfNeeded_cases (s : State) :
    (swapDue (swapPoll s).bw = true ∧
      switchIfNeeded s = (true, swapRelease (swapPublish (swapPoll s)))) ∨
    (swapDue (swapPoll s).bw = false ∧ switchIfNeeded s = (false, swapPoll s)) := by
  cases h : swapDue (swapPoll s).bw <;> simp [switchIfNeeded, h]

/-- What the wait step of `RDR.REQUEST_AND_WAIT` can do (45_bridge.md R300, R302). -/
theorem waitStep_cases (s : State) :
    (0 < s.semResp ∧
      waitStep s =
        { s with
          semResp := s.semResp - 1
          br := { s.br with latched := false, waiting := false, inWindow := true }
          port := { s.port with satisfied := true } }) ∨
    (s.semResp = 0 ∧
      waitStep s =
        { s with
          br := { s.br with waiting := false }
          port := { s.port with satisfied := false } }) := by
  by_cases h : 0 < s.semResp
  · exact .inl ⟨h, by simp [waitStep, h]⟩
  · exact .inr ⟨by omega, by simp [waitStep, h]⟩

/-! ### Rings -/

/-- What `RB.WRITE` can do (41_ring_buffer.md R153). -/
theorem writeRing_cases (c : Fin 4) (lane : List Byte) (s : State) :
    (s.rb[c].cap = 0 ∧ lane ≠ [] ∧ writeRing c lane s = .refused .capacityZero) ∨
    (¬(s.rb[c].cap = 0 ∧ lane ≠ []) ∧
      writeRing c lane s = .ok () (withRing c (ringWritten s.rb[c] lane) s)) := by
  by_cases h : s.rb[c].cap = 0 ∧ lane ≠ []
  · exact .inl ⟨h.1, h.2, by rw [writeRing, if_pos h]⟩
  · exact .inr ⟨h, by rw [writeRing, if_neg h]⟩

/-- What `RB.READ` can do (41_ring_buffer.md R156, R158, R159). -/
theorem readRing_cases (c : Fin 4) (len endOffset : Nat) (s : State) :
    (s.rb[c].cap.toNat < len + endOffset ∧
      readRing c len endOffset s = .fatal (raiseFatal fRingBounds s)) ∨
    (len + endOffset ≤ s.rb[c].cap.toNat ∧
      readRing c len endOffset s =
        .ok (fillFree s.free (windowCells s.rb[c] len endOffset)) (drawn len s)) := by
  by_cases h : s.rb[c].cap.toNat < len + endOffset
  · exact .inl ⟨h, by rw [readRing, if_pos h]⟩
  · exact .inr ⟨Nat.le_of_not_lt h, by rw [readRing, if_neg h]⟩

/-- The channels in use are those below `NCH`. -/
@[simp] theorem mem_channels (p : Params) (c : Fin 4) : c ∈ channels p ↔ c.val < p.nch := by
  have h : c ∈ ([0, 1, 2, 3] : List (Fin 4)) := by fin_cases c <;> simp
  simp only [channels, List.mem_filter, h, true_and, decide_eq_true_eq]

/-- Configuring the rings of a list of channels writes the rings and nothing else. -/
theorem configureRings_frame (cap : BitVec 33) (cs : List (Fin 4)) (s : State) :
    ∃ rb, configureRings cap cs s = { s with rb := rb } ∧
      ∀ c : Fin 4, rb[c] = if c ∈ cs then ringConfigured cap else s.rb[c] := by
  induction cs generalizing s with
  | nil => exact ⟨s.rb, rfl, fun c => by simp⟩
  | cons d cs ih =>
    obtain ⟨rb, h₁, h₂⟩ := ih (configureRing cap d s)
    refine ⟨rb, by simpa [configureRings, configureRing, withRing] using h₁, fun c => ?_⟩
    rw [h₂ c]
    by_cases hc : c ∈ cs
    · simp [hc]
    · by_cases hd : c = d
      · simp [hd, configureRing, withRing]
      · have : d.val ≠ c.val := fun e => hd (Fin.ext e.symm)
        simp [hc, hd, configureRing, withRing, Vector.getElem_set_ne _ _ this]

/-- Feeding the rings of a list of channels writes rings and nothing else, and moves no capacity. -/
theorem feedRings_frame {cs : List (Fin 4)} {s t : State} {u : Unit} (h : feedRings cs s = .ok u t) :
    ∃ rb, t = { s with rb := rb } ∧ ∀ c : Fin 4, rb[c].cap = s.rb[c].cap := by
  induction cs generalizing s with
  | nil =>
    cases h
    exact ⟨t.rb, rfl, fun c => rfl⟩
  | cons d cs ih =>
    rcases writeRing_cases d (laneOf s.c.lanes d.val) s with ⟨_, _, hw⟩ | ⟨_, hw⟩
    · simp [feedRings, hw] at h
    · simp only [feedRings, hw] at h
      obtain ⟨rb, rfl, hc⟩ := ih h
      refine ⟨rb, rfl, fun c => (hc c).trans ?_⟩
      by_cases hd : d.val = c.val
      · have : d = c := Fin.ext hd
        subst this
        simp [withRing]
      · simp [withRing, Vector.getElem_set_ne _ _ hd]

/-! ### Configuration operations that can be rejected -/

/-- What `DMX.DEMUX` can do (40_demux.md R141, R143). -/
theorem demux_cases (n : Nat) (s : State) :
    ((n = 1 ∨ n = 2 ∨ n = 4) ∧
      demux n s =
        { s with
          free := s.free + s.par.blockBytes
          c := { s.c with lanes := demuxLanes (fillFree s.free (blkCells s)) n } }) ∨
    (¬(n = 1 ∨ n = 2 ∨ n = 4) ∧ demux n s = raiseConfigError eChannelCount 0 s) := by
  by_cases h : n = 1 ∨ n = 2 ∨ n = 4
  · exact .inl ⟨h, by rw [demux, if_pos h]; rfl⟩
  · exact .inr ⟨h, by rw [demux, if_neg h]⟩

/-- What `TRG.SET_VERTICAL` can do (42_trigger_engine.md R172). -/
theorem setVertical_cases (level hyst : Byte) (s : State) :
    (127 < hyst.toNat ∧ setVertical level hyst s = raiseConfigError eTrgParam 0 s) ∨
    (hyst.toNat ≤ 127 ∧
      setVertical level hyst s = { s with trg := trgVertical s.trg level hyst }) := by
  by_cases h : 127 < hyst.toNat
  · exact .inl ⟨h, by rw [setVertical, if_pos h]⟩
  · exact .inr ⟨Nat.le_of_not_lt h, by rw [setVertical, if_neg h]; rfl⟩

/-- What `TRG.SET_HORIZONTAL` can do (42_trigger_engine.md R174). -/
theorem setHorizontal_cases (W pos add : BitVec 32) (s : State) :
    ((W = 0 ∨ W.toNat ≤ pos.toNat) ∧ setHorizontal W pos add s = raiseConfigError eTrgParam 0 s) ∨
    (W ≠ 0 ∧ pos.toNat < W.toNat ∧
      setHorizontal W pos add s = { s with trg := trgHorizontal s.trg W pos add }) := by
  by_cases h : W = 0 ∨ W.toNat ≤ pos.toNat
  · exact .inl ⟨h, by rw [setHorizontal, if_pos h]⟩
  · obtain ⟨h₁, h₂⟩ := not_or.1 h
    exact .inr ⟨h₁, Nat.lt_of_not_le h₂, by rw [setHorizontal, if_neg h]; rfl⟩

/-! ### Regions of the segment -/

/-- What `BRG.ACQ_REGION` can do (45_bridge.md R283; 20_memory.md R72). -/
theorem acqRegion_cases (s : State) :
    (s.bw.shadow.activeRegion = 1 ∧ acqRegion s = .ok 72 s) ∨
    (s.bw.shadow.activeRegion = 2 ∧ acqRegion s = .ok (72 + regionBytes s.par) s) ∨
    (s.bw.shadow.activeRegion ≠ 1 ∧ s.bw.shadow.activeRegion ≠ 2 ∧
      acqRegion s = .fatal (raiseFatal fRegionEnum s)) := by
  unfold acqRegion regionBase
  by_cases h₁ : s.bw.shadow.activeRegion = 1
  · exact .inl ⟨h₁, by simp [h₁, hdrBytes]⟩
  · by_cases h₂ : s.bw.shadow.activeRegion = 2
    · exact .inr (.inl ⟨h₂, by simp [h₂, hdrBytes]⟩)
    · exact .inr (.inr ⟨h₁, h₂, by rw [if_neg h₁, if_neg h₂]⟩)

/-- What a store of one byte into a region can do (45_bridge.md R284; 20_memory.md R79). -/
theorem storeByte_cases (a : Nat) (b : Byte) (s : State) :
    (hdrBytes ≤ a ∧ a < segBytes s.par ∧ storeByte a b s = .ok () { s with seg := s.seg.write a b }) ∨
    (¬(hdrBytes ≤ a ∧ a < segBytes s.par) ∧ storeByte a b s = .fault .segBounds) := by
  by_cases h : hdrBytes ≤ a ∧ a < segBytes s.par
  · exact .inl ⟨h.1, h.2, by rw [storeByte, if_pos h]⟩
  · exact .inr ⟨h, by rw [storeByte, if_neg h]⟩

/-- What one store of the copies of `Deliver` can do (44_controller_sequencer.md R250): write the byte at
its place in the acquiring region; raise a Fatal on an unrecognised selector; or stop outside the
segment. -/
theorem storeWindowByte_cases (c : Fin 4) (k : Nat) (b : Byte) (s : State) :
    (∃ base, regionBase s.par s.bw.shadow.activeRegion = some base ∧
      hdrBytes ≤ windowAddr s base c k ∧ windowAddr s base c k < segBytes s.par ∧
      storeWindowByte c k b s = .ok () { s with seg := s.seg.write (windowAddr s base c k) b }) ∨
    (regionBase s.par s.bw.shadow.activeRegion = none ∧
      storeWindowByte c k b s = .fatal (raiseFatal fRegionEnum s)) ∨
    (∃ base, regionBase s.par s.bw.shadow.activeRegion = some base ∧
      ¬(hdrBytes ≤ windowAddr s base c k ∧ windowAddr s base c k < segBytes s.par) ∧
      storeWindowByte c k b s = .fault .segBounds) := by
  unfold storeWindowByte acqRegion
  cases hb : regionBase s.par s.bw.shadow.activeRegion with
  | none => exact .inr (.inl ⟨rfl, rfl⟩)
  | some base =>
    rcases storeByte_cases (windowAddr s base c k) b s with ⟨h₁, h₂, h⟩ | ⟨h₁, h⟩
    · exact .inl ⟨base, rfl, h₁, h₂, h⟩
    · exact .inr (.inr ⟨base, rfl, h₁, h⟩)

/-! ### The region read of the consumer -/

@[simp] theorem regionCursor_zero (a : Nat) : regionCursor a 0 = none := rfl
@[simp] theorem regionCursor_succ (a n : Nat) :
    regionCursor a (n + 1) = some { addr := a, more := n } := rfl

/-- Inside the read window no region read is raced (45_bridge.md R311). -/
theorem readRaces_inWindow {s : State} (h : s.br.inWindow = true) : readRaces s = false := by
  simp [readRaces, h]

/-- Without a request outstanding no region read is raced (20_memory.md R89). -/
theorem readRaces_not_latched {s : State} (h : s.br.latched = false) : readRaces s = false := by
  simp [readRaces, h]

/-- Once `CTL` has stopped, and no response is to be taken, no region read is raced (20_memory.md
R88). -/
theorem readRaces_stopped {s : State} (h : ctlStopped s.c = true) (h' : s.semResp = 0) :
    readRaces s = false := by
  simp [readRaces, h, h']

/-- What the header step of `RDR.READ_REGION` can do (45_bridge.md R306): load the header and start the
read of the region it does not name, or, with an unrecognised selector, give the consumer a fault and no
bytes. -/
theorem startRegionRead_cases (s : State) :
    (∃ base, acquiredBase s.par (.ofNat 8 (headerField (publishedHeader s) 18 1)) = some base ∧
      startRegionRead s =
        { s with
          br :=
            { s.br with
              hdr := publishedHeader s
              reading := regionCursor base (regionReadSize (publishedHeader s)) }
          port := { s.port with bytes := [], rdrFault := none } }) ∨
    (acquiredBase s.par (.ofNat 8 (headerField (publishedHeader s) 18 1)) = none ∧
      startRegionRead s =
        { s with
          br := { s.br with hdr := publishedHeader s }
          port := { s.port with bytes := [], rdrFault := some fRegionEnum } }) := by
  unfold startRegionRead
  dsimp only
  split
  · rename_i base hb
    exact .inl ⟨base, hb, rfl⟩
  · rename_i hb
    exact .inr ⟨hb, rfl⟩

/-- What a byte step of `RDR.READ_REGION` can do (45_bridge.md R306, 20_memory.md R89): append the byte of
its place where nothing races, a free value in a race; or stop beyond the segment. -/
theorem readRegionByte_cases (r : RegionCursor) (s : State) :
    (r.addr < segBytes s.par ∧ readRaces s = false ∧
      readRegionByte r s =
        .ok ()
          { s with
            br := { s.br with reading := regionCursor (r.addr + 1) r.more }
            port := { s.port with bytes := s.port.bytes ++ [regionByteAt s r.addr] } }) ∨
    (r.addr < segBytes s.par ∧ readRaces s = true ∧
      readRegionByte r s =
        .ok ()
          { s with
            free := s.free + 1
            br := { s.br with reading := regionCursor (r.addr + 1) r.more }
            port := { s.port with bytes := s.port.bytes ++ [Config.freeByte s.free] } }) ∨
    (segBytes s.par ≤ r.addr ∧ readRegionByte r s = .fault .segBounds) := by
  by_cases h : r.addr < segBytes s.par
  · cases hr : readRaces s
    · exact .inl ⟨h, rfl, by simp [readRegionByte, h, hr, drawn]⟩
    · exact .inr (.inl ⟨h, rfl, by simp [readRegionByte, h, hr, drawn]⟩)
  · exact .inr (.inr ⟨Nat.le_of_not_lt h, by rw [readRegionByte, if_neg h]⟩)

end Sys2Proof.Machine
end

