-- ==== Sys2Proof/Laws/Step.lean ====
section
/-!
SUPPORT. What one step of the machine can do: every proof over all steps starts from these lemmas and
unfolds none of the definitions above a phase or a micro-step.
-/

namespace Sys2Proof.Machine

/-- A step that answers a next state ran a presented operation, left one that is not enabled, or took
the next turn of the schedule. -/
theorem step_cases {s t : State} (h : step s = .next t) :
    s.par.valid = true ∧
      ((∃ w i, s.uop = some w ∧ decodeUop w = some i ∧ uopEnabled i s = true ∧
          exec i { s with uop := none } = .next t) ∨
        (∃ w i, s.uop = some w ∧ decodeUop w = some i ∧ uopEnabled i s = false ∧ t = s) ∨
        (s.uop = none ∧ runTurn (nextTurn s) (turnTaken s) = .next t)) := by
  unfold step nextStep at h
  split at h
  · rename_i hv
    refine ⟨hv, ?_⟩
    split at h
    · rename_i w hw
      unfold uopStep at h
      split at h
      · cases h
      · rename_i i hi
        split at h
        · rename_i he
          exact .inl ⟨w, i, hw, hi, he, h⟩
        · rename_i he
          cases h
          exact .inr (.inl ⟨w, i, hw, hi, by simpa using he, rfl⟩)
    · rename_i hw
      exact .inr (.inr ⟨hw, h⟩)
  · cases h

/-- A step of the assembled core is a turn of the schedule. -/
theorem step_turn {s : State} (hv : s.par.valid = true) (hu : s.uop = none) :
    step s = runTurn (nextTurn s) (turnTaken s) := by
  simp [step, nextStep, hv, hu]

/-- A placed turn of `CTL` is a step of it. -/
theorem step_ctl {s : State} {rest : List Turn} (hv : s.par.valid = true) (hu : s.uop = none)
    (ha : s.agenda = .ctl :: rest) : step s = ctlStep { s with agenda := rest } := by
  simp [step_turn hv hu, nextTurn, turnTaken, ha, runTurn]

/-- A turn of `CTL` that finds work left over does its first entry. -/
theorem step_micro {s : State} {rest : List Turn} {m : Micro} {work : List Micro}
    (hv : s.par.valid = true) (hu : s.uop = none) (ha : s.agenda = .ctl :: rest)
    (hc : ctlStopped s.c = false) (hr : s.c.rspHold = none) (ht : s.c.todo = m :: work) :
    step s = runMicro m (withTodo work { s with agenda := rest }) := by
  rw [step_ctl hv hu ha]
  simp [ctlStep, hc, hr, ht]

/-- A run goes on from the next state of its first step. -/
theorem run_succ {s t : State} (h : step s = .next t) (k : Nat) :
    Host.Core.run Sys2Proof.core (k + 1) s = Host.Core.run Sys2Proof.core k t := by
  have h' : Sys2Proof.core.step s = .next t := h
  simp only [Host.Core.run, h']

/-- A run of no steps stays. -/
theorem run_zero (s : State) : Host.Core.run Sys2Proof.core 0 s = .next s := rfl

/-- What a step of `CTL` can do (44_controller_sequencer.md R240): nothing when stopped, the wait of
`GET_RATE`, the first micro-step still to do, or the next phase. -/
theorem ctlStep_cases (s : State) :
    (ctlStopped s.c = true ∧ ctlStep s = .next s) ∨
    (ctlStopped s.c = false ∧ ∃ r, s.c.rspHold = some r ∧ ctlStep s = .next (rspWait r s)) ∨
    (ctlStopped s.c = false ∧ s.c.rspHold = none ∧
      ∃ m rest, s.c.todo = m :: rest ∧ ctlStep s = runMicro m (withTodo rest s)) ∨
    (ctlStopped s.c = false ∧ s.c.rspHold = none ∧ s.c.todo = [] ∧ ctlStep s = runPhase s) := by
  unfold ctlStep
  cases hs : ctlStopped s.c
  · cases hr : s.c.rspHold with
    | some r => exact .inr (.inl ⟨rfl, r, rfl, by simp⟩)
    | none =>
      cases ht : s.c.todo with
      | nil => exact .inr (.inr (.inr ⟨rfl, rfl, rfl, by simp⟩))
      | cons m rest => exact .inr (.inr (.inl ⟨rfl, rfl, m, rest, rfl, by simp⟩))
  · exact .inl ⟨rfl, by simp⟩

/-- What the drain of `P_CMD` can do (43_controller_commands.md R210, R224). -/
theorem phaseCmd_cases (s : State) :
    (s.cmdq = [] ∧ phaseCmd s = .next (gotoPhase .wait s)) ∨
    (∃ w q i, s.cmdq = w :: q ∧ decodeCmd w = some i ∧ phaseCmd s = exec i { s with cmdq := q }) ∨
    (∃ w q, s.cmdq = w :: q ∧ decodeCmd w = none ∧
      phaseCmd s = .next (raiseConfigError eUnknownCmd w { s with cmdq := q })) := by
  unfold phaseCmd
  cases hq : s.cmdq with
  | nil => exact .inl ⟨rfl, rfl⟩
  | cons w q =>
    cases hd : decodeCmd w with
    | some i => exact .inr (.inl ⟨w, q, i, rfl, hd, by simp [hd]⟩)
    | none => exact .inr (.inr ⟨w, q, rfl, hd, by simp [hd]⟩)

/-- Whatever turn is taken next, taking it off changes only the agenda or the count of turns drawn. -/
theorem turnTaken_frame (s : State) :
    ∃ agenda turnNo, turnTaken s = { s with agenda := agenda, turnNo := turnNo } := by
  unfold turnTaken
  split
  · rename_i rest _
    exact ⟨rest, s.turnNo, rfl⟩
  · exact ⟨s.agenda, s.turnNo + 1, rfl⟩

/-- A placed turn is the next turn. -/
theorem nextTurn_cons {s : State} {t : Turn} {rest : List Turn} (h : s.agenda = t :: rest) :
    nextTurn s = t ∧ turnTaken s = { s with agenda := rest } := by
  simp [nextTurn, turnTaken, h]

end Sys2Proof.Machine
end

