-- ==== Sys2Proof/Laws/PerInstr.lean ====
section
/-!
SUPPORT. The per-instruction family `EncodesInItsRow`: the word or the select of a well-formed
operation matches the row of 30_encoding.md R116 or R117 its constructor belongs to.
-/

namespace Sys2Proof.Laws

/-- The row of the opcode table: the value and the mask of a command word, or the select of a unit
operation (30_encoding.md R116, R117). -/
def rowOf : Instr → Word64 × Word64 ⊕ Select
  | .run => .inl (0x0100000000000000, 0xFFFFFFFFFFFFFFFF)
  | .stop => .inl (0x0200000000000000, 0xFFFFFFFFFFFFFFFF)
  | .force => .inl (0x0300000000000000, 0xFFFFFFFFFFFFFFFF)
  | .setMode _ => .inl (0x0400000000000000, 0xFFFFFFFFFFFFFFFC)
  | .setDepth _ => .inl (0x0500000000000000, 0xFFFFFFFF00000000)
  | .setRate _ => .inl (0x0600000000000000, 0xFF00000000000000)
  | .setSrc _ => .inl (0x0700000000000000, 0xFFFFFFFFFFFFFF00)
  | .setDelay _ => .inl (0x0800000000000000, 0xFF00000000000000)
  | .setLevel _ => .inl (0x0900000000000000, 0xFFFFFFFF00000000)
  | .setType _ => .inl (0x0A00000000000000, 0xFFFFFFFFFFFFFFFE)
  | .getRate => .inl (0x0B00000000000000, 0xFFFFFFFFFFFFFFFF)
  | .dmxDemux => .inr 0x10
  | .rbConfigure => .inr 0x20
  | .rbWrite => .inr 0x21
  | .rbRead => .inr 0x22
  | .trgSetVertical => .inr 0x30
  | .trgSetHorizontal => .inr 0x31
  | .trgSetEdge => .inr 0x32
  | .trgReset => .inr 0x33
  | .trgProcess => .inr 0x34
  | .brgInit => .inr 0x40
  | .brgAcqRegion => .inr 0x41
  | .brgDataWritten => .inr 0x42
  | .brgSwitchIfNeeded => .inr 0x43
  | .rdrOpen => .inr 0x50
  | .rdrRequestAndWait => .inr 0x51
  | .rdrReadHeader => .inr 0x52
  | .rdrReadRegion => .inr 0x53

/-- An encoding lies in a row. -/
def inRow : Code → Word64 × Word64 ⊕ Select → Bool
  | .cmd w, .inl (value, mask) => w &&& mask == value
  | .uop w, .inr select => w == select
  | .cmd _, .inr _ => false
  | .uop _, .inl _ => false

/-- A well-formed operation encodes into its own row. -/
def EncodesInItsRow.Statement (i : Instr) : Prop :=
  i.wellFormed = true → inRow (encode i) (rowOf i) = true

theorem and_ones (op : Byte) : op &&& 0xFF#8 = op := BitVec.and_allOnes (x := op)

/-- A mask of the opcode byte keeps the opcode of a command word. -/
theorem cmdWord_high (op : Byte) (v : BitVec 56) :
    cmdWord op v &&& 0xFF00000000000000 = cmdWord op 0 := by
  have e : (0xFF00000000000000 : Word64) = 0xFF#8 ++ 0#56 := by decide
  rw [cmdWord, e, BitVec.and_append, BitVec.and_zero, and_ones]
  rfl

/-- A mask of all bits above a 32-bit operand keeps the opcode of a command word. -/
theorem cmdWord_low32 (op : Byte) (v : BitVec 32) :
    cmdWord op (v.setWidth 56) &&& 0xFFFFFFFF00000000 = cmdWord op 0 := by
  have e : (0xFFFFFFFF00000000 : Word64) = 0xFF#8 ++ (0xFFFFFF#24 ++ 0#32) := by decide
  have h : v.setWidth 56 = 0#24 ++ v := by
    rw [BitVec.setWidth_eq_append (by decide : 32 ≤ 56)]
    rfl
  rw [cmdWord, h, e, BitVec.and_append, BitVec.and_append, BitVec.zero_and, BitVec.and_zero,
    and_ones]
  rfl

/-- A mask of all bits above an 8-bit operand keeps the opcode of a command word. -/
theorem cmdWord_low8 (op : Byte) (v : BitVec 8) :
    cmdWord op (v.setWidth 56) &&& 0xFFFFFFFFFFFFFF00 = cmdWord op 0 := by
  have e : (0xFFFFFFFFFFFFFF00 : Word64) = 0xFF#8 ++ (0xFFFFFFFFFFFF#48 ++ 0#8) := by decide
  have h : v.setWidth 56 = 0#48 ++ v := by
    rw [BitVec.setWidth_eq_append (by decide : 8 ≤ 56)]
    rfl
  rw [cmdWord, h, e, BitVec.and_append, BitVec.and_append, BitVec.zero_and, BitVec.and_zero,
    and_ones]
  rfl

namespace EncodesInItsRow

theorem run : Statement .run := fun _ => by decide
theorem stop : Statement .stop := fun _ => by decide
theorem force : Statement .force := fun _ => by decide
theorem setMode (mode : TrigMode) : Statement (.setMode mode) := fun _ => by
  cases mode <;> decide
theorem setDepth (samples : Nat) : Statement (.setDepth samples) := fun _ =>
  beq_iff_eq.2 ((cmdWord_low32 _ _).trans (by decide))
theorem setRate (samplingHz : Nat) : Statement (.setRate samplingHz) := fun _ =>
  beq_iff_eq.2 ((cmdWord_high _ _).trans (by decide))
theorem setSrc (channel : Nat) : Statement (.setSrc channel) := fun _ =>
  beq_iff_eq.2 ((cmdWord_low8 _ _).trans (by decide))
theorem setDelay (femtoseconds : Nat) : Statement (.setDelay femtoseconds) := fun _ =>
  beq_iff_eq.2 ((cmdWord_high _ _).trans (by decide))
theorem setLevel (microvolts : Int) : Statement (.setLevel microvolts) := fun _ =>
  beq_iff_eq.2 ((cmdWord_low32 _ _).trans (by decide))
theorem setType (edge : Edge) : Statement (.setType edge) := fun _ => by cases edge <;> decide
theorem getRate : Statement .getRate := fun _ => by decide
theorem dmxDemux : Statement .dmxDemux := fun _ => rfl
theorem rbConfigure : Statement .rbConfigure := fun _ => rfl
theorem rbWrite : Statement .rbWrite := fun _ => rfl
theorem rbRead : Statement .rbRead := fun _ => rfl
theorem trgSetVertical : Statement .trgSetVertical := fun _ => rfl
theorem trgSetHorizontal : Statement .trgSetHorizontal := fun _ => rfl
theorem trgSetEdge : Statement .trgSetEdge := fun _ => rfl
theorem trgReset : Statement .trgReset := fun _ => rfl
theorem trgProcess : Statement .trgProcess := fun _ => rfl
theorem brgInit : Statement .brgInit := fun _ => rfl
theorem brgAcqRegion : Statement .brgAcqRegion := fun _ => rfl
theorem brgDataWritten : Statement .brgDataWritten := fun _ => rfl
theorem brgSwitchIfNeeded : Statement .brgSwitchIfNeeded := fun _ => rfl
theorem rdrOpen : Statement .rdrOpen := fun _ => rfl
theorem rdrRequestAndWait : Statement .rdrRequestAndWait := fun _ => rfl
theorem rdrReadHeader : Statement .rdrReadHeader := fun _ => rfl
theorem rdrReadRegion : Statement .rdrReadRegion := fun _ => rfl

end EncodesInItsRow

end Sys2Proof.Laws
end

