-- ==== Sys2Proof/Laws/Trigger.lean ====
section
/-!
SUPPORT. What one step of the trigger engine can do (42_trigger_engine.md R179 to R185), and what a
scan leaves alone.
-/

namespace Sys2Proof.Machine

/-- Two engines with the same configuration registers (10_state.md R26). -/
def SameTrgConfig (t t' : Trg) : Prop :=
  t'.level = t.level ∧ t'.hyst = t.hyst ∧ t'.lo = t.lo ∧ t'.hi = t.hi ∧ t'.enR = t.enR ∧
    t'.enF = t.enF ∧ t'.W = t.W ∧ t'.pos = t.pos ∧ t'.add = t.add ∧
    t'.captureSamples = t.captureSamples ∧ t'.holdoffSamples = t.holdoffSamples

theorem SameTrgConfig.refl (t : Trg) : SameTrgConfig t t := by simp [SameTrgConfig]

theorem SameTrgConfig.trans {t₁ t₂ t₃ : Trg} (h : SameTrgConfig t₁ t₂) (h' : SameTrgConfig t₂ t₃) :
    SameTrgConfig t₁ t₃ := by
  simp only [SameTrgConfig] at *
  simp [h, h']

/-- What `ConsumeCapture` can do (42_trigger_engine.md R183): go on, or end the capture with or without
a holdoff. -/
theorem consumeCapture_cases (t : Trg) :
    (t.captureRemaining - 1 ≠ 0 ∧
      consumeCapture t = ({ t with captureRemaining := t.captureRemaining - 1 }, false)) ∨
    (t.captureRemaining - 1 = 0 ∧ t.holdoffSamples ≠ 0 ∧
      consumeCapture t =
        ({ t with captureRemaining := 0, state := .inHoldoff,
                  holdoffRemaining := t.holdoffSamples }, true)) ∨
    (t.captureRemaining - 1 = 0 ∧ t.holdoffSamples = 0 ∧
      consumeCapture t = ({ t with captureRemaining := 0, state := .unarmed }, true)) := by
  unfold consumeCapture
  by_cases h₁ : t.captureRemaining - 1 = 0
  · by_cases h₂ : t.holdoffSamples = 0
    · exact .inr (.inr ⟨h₁, h₂, by rw [if_pos h₁, if_neg (not_not.2 h₂)]⟩)
    · exact .inr (.inl ⟨h₁, h₂, by rw [if_pos h₁, if_pos h₂]⟩)
  · exact .inl ⟨h₁, by rw [if_neg h₁]⟩

theorem consumeCapture_config (t : Trg) : SameTrgConfig t (consumeCapture t).1 := by
  rcases consumeCapture_cases t with ⟨_, h⟩ | ⟨_, _, h⟩ | ⟨_, _, h⟩ <;> rw [h] <;>
    simp [SameTrgConfig]

theorem beginCapture_config (t : Trg) : SameTrgConfig t (beginCapture t).1 :=
  SameTrgConfig.trans (by simp [SameTrgConfig]) (consumeCapture_config _)

/-- No step of the scan writes a configuration register. -/
theorem trgStep_config (t : Trg) (x : Byte) : SameTrgConfig t (trgStep t x).1 := by
  unfold trgStep
  split
  · split
    · simp [SameTrgConfig]
    · split <;> simp [SameTrgConfig]
  · split
    exacts [beginCapture_config t, SameTrgConfig.refl t]
  · split
    exacts [beginCapture_config t, SameTrgConfig.refl t]
  · exact consumeCapture_config t
  · split <;> simp [SameTrgConfig]

@[simp] theorem trgScan_nil (t : Trg) (i : Nat) : trgScan t i [] = (t, []) := rfl

theorem trgScan_cons (t : Trg) (i : Nat) (x : Byte) (xs : List Byte) :
    trgScan t i (x :: xs) =
      ((trgScan (trgStep t x).1 (i + 1) xs).1,
        if (trgStep t x).2 then
          BitVec.ofNat 32 (i + 1) :: (trgScan (trgStep t x).1 (i + 1) xs).2
        else (trgScan (trgStep t x).1 (i + 1) xs).2) := rfl

/-- No scan writes a configuration register (42_trigger_engine.md R178). -/
theorem trgScan_config (t : Trg) (i : Nat) (lane : List Byte) :
    SameTrgConfig t (trgScan t i lane).1 := by
  induction lane generalizing t i with
  | nil => exact SameTrgConfig.refl t
  | cons x xs ih => exact (trgStep_config t x).trans (ih _ _)

/-- The state a scan starts from does not see the index it counts from. -/
theorem trgScan_fst_index (t : Trg) (i j : Nat) (lane : List Byte) :
    (trgScan t i lane).1 = (trgScan t j lane).1 := by
  induction lane generalizing t i j with
  | nil => rfl
  | cons x xs ih => simpa [trgScan_cons] using ih _ _ _

end Sys2Proof.Machine
end

