-- ==== Sys2Proof/Tests/Slice0.lean ====
section
/-!
SUPPORT. The model's own tests: ill-formed terms that the checks refuse, words written out from the
spec's encoding tables, the worked examples of the spec one step at a time, and for every statement a
state and operands that meet its hypotheses.
-/

namespace Sys2Proof.Tests

open Sys2Proof.Machine

/- Each `decide +kernel` waits for the declarations before it: elaborated side by side they would each
hold a thread. -/
set_option Elab.async false

/-! ### Helpers -/

/-- A small parameter record in the domain: two lanes of eight samples, regions of 8 samples. -/
def tiny : Params :=
  { Config.params with
    blockBytes := 16
    nch := 2
    maxw := 8
    minw := 4
    cfg0 :=
      { W := 6, pos := 2, level := 0, hyst := 1, edge := .rising, addHoldoff := 0, src := 0,
        mode := .normal, run := true } }

/-- The core reset with the small parameters, `CTL` next. -/
def base : State := { State.resetOf tiny with agenda := [.ctl] }

/-- The core reset with `NCH` lanes of 1000-sample windows, the numbers of the spec's examples. -/
def lanes (nch : Nat) : State := State.resetOf { Config.params with nch := nch, maxw := 4096 }

/-- A part of the next state, `none` where there is none. -/
def after {α : Type} (f : State → α) : Host.Outcome State Fault Refusal → Option α
  | .next s => some (f s)
  | .fault _ => none
  | .refused _ => none

/-- The step answers a next state. -/
def isNext (o : Host.Outcome State Fault Refusal) : Bool := (after (fun _ => ()) o).isSome

theorem next_of_isNext {o : Host.Outcome State Fault Refusal} (h : isNext o = true) :
    ∃ t, o = .next t := by
  cases o with
  | next s => exact ⟨s, rfl⟩
  | fault r => cases h
  | refused r => cases h

/-- The state with other side ports. -/
def ports (f : Ports → Ports) (s : State) : State := { s with port := f s.port }

/-- The state with another controller. -/
def ctl (f : Ctl → Ctl) (s : State) : State := { s with c := f s.c }

/-- The state with another engine. -/
def engine (f : Trg → Trg) (s : State) : State := { s with trg := f s.trg }

/-- The state with another bridge writer. -/
def writer (f : Bw → Bw) (s : State) : State := { s with bw := f s.bw }

/-- The state with another bridge reader. -/
def reader (f : Br → Br) (s : State) : State := { s with br := f s.br }

/-- The state with the channel of the side ports given another ring. -/
def ring (f : Ring → Ring) (s : State) : State :=
  { s with rb := s.rb.set s.port.c (f s.rb[s.port.c]) }

/-! ### Well-formedness -/

theorem test_wf_refuses_wide_depth : (Instr.setDepth (2 ^ 32)).wellFormed = false := by decide +kernel
theorem test_wf_refuses_wide_rate : (Instr.setRate (2 ^ 56)).wellFormed = false := by decide +kernel
theorem test_wf_refuses_wide_source : (Instr.setSrc 256).wellFormed = false := by decide +kernel
theorem test_wf_refuses_wide_delay : (Instr.setDelay (2 ^ 56)).wellFormed = false := by decide +kernel
theorem test_wf_refuses_high_level : (Instr.setLevel (2 ^ 31)).wellFormed = false := by decide +kernel
theorem test_wf_refuses_low_level : (Instr.setLevel (-2 ^ 31 - 1)).wellFormed = false := by decide +kernel

theorem test_wf_accepts_the_parameters : tiny.valid = true ∧ Config.params.valid = true := by decide +kernel

theorem test_wf_refuses_block_and_lane_parameters :
    ({ tiny with nch := 3 } : Params).valid = false ∧
    ({ tiny with blockBytes := 0 } : Params).valid = false ∧
    ({ tiny with blockBytes := 6 } : Params).valid = false ∧
    ({ tiny with blockBytes := 2 ^ 33 } : Params).valid = false := by decide +kernel

theorem test_wf_refuses_window_and_value_parameters :
    ({ tiny with maxw := 3 } : Params).valid = false ∧
    ({ tiny with maxw := 2 ^ 32 } : Params).valid = false ∧
    ({ tiny with formatVersion := 0 } : Params).valid = false ∧
    ({ tiny with autoTimeoutSamples := 0 } : Params).valid = false ∧
    ({ tiny with fsUv := #v[1, 1, 0, 1] } : Params).valid = false := by decide +kernel

theorem test_wf_refuses_queue_depths :
    ({ tiny with blkqDepth := 0 } : Params).valid = false ∧
    ({ tiny with cmdqDepth := 0 } : Params).valid = false ∧
    ({ tiny with rspqDepth := 0 } : Params).valid = false := by decide +kernel

theorem test_wf_refuses_reset_configurations :
    ({ tiny with cfg0.W := 3 } : Params).valid = false ∧
    ({ tiny with cfg0.W := 9 } : Params).valid = false ∧
    ({ tiny with cfg0.pos := 6 } : Params).valid = false ∧
    ({ tiny with cfg0.level := -129 } : Params).valid = false ∧
    ({ tiny with cfg0.level := 128 } : Params).valid = false ∧
    ({ tiny with cfg0.hyst := 128 } : Params).valid = false ∧
    ({ tiny with cfg0.addHoldoff := 2 ^ 32 } : Params).valid = false ∧
    ({ tiny with cfg0.src := 2 } : Params).valid = false := by decide +kernel

/-! ### Decoding: words written out from 30_encoding.md R111 to R117 -/

/-- The run-control words and the query (30_encoding.md R116, mask all ones). -/
theorem test_decode_control_words :
    decode (.cmd 0x0100000000000000) = some .run ∧
    decode (.cmd 0x0200000000000000) = some .stop ∧
    decode (.cmd 0x0300000000000000) = some .force ∧
    decode (.cmd 0x0B00000000000000) = some .getRate := by decide +kernel

/-- The configuration words of the examples of 43_controller_commands.md. -/
theorem test_decode_configuration_words :
    decode (.cmd 0x0400000000000003) = some (.setMode .stream) ∧
    decode (.cmd 0x05000000000003E7) = some (.setDepth 999) ∧
    decode (.cmd 0x060000003B9ACA00) = some (.setRate 1000000000) ∧
    decode (.cmd 0x0700000000000002) = some (.setSrc 2) ∧
    decode (.cmd 0x08FFFFFFFFFFFFFF) = some (.setDelay 0xFFFFFFFFFFFFFF) ∧
    decode (.cmd 0x09000000000927C0) = some (.setLevel 600000) ∧
    decode (.cmd 0x09000000FFFFFFFF) = some (.setLevel (-1)) ∧
    decode (.cmd 0x0A00000000000000) = some (.setType .rising) := by decide +kernel

/-- Reserved bits and unused opcodes (30_encoding.md R118). -/
theorem test_decode_rejects_reserved_words :
    decode (.cmd 0x0000000000000000) = none ∧ decode (.cmd 0x0C00000000000000) = none ∧
    decode (.cmd 0x0100000000000001) = none ∧ decode (.cmd 0x0400000000000004) = none ∧
    decode (.cmd 0x0500000100000000) = none ∧ decode (.cmd 0x0700000000000100) = none ∧
    decode (.cmd 0x0A00000000000002) = none := by decide +kernel

/-- The selects of 30_encoding.md R117. -/
theorem test_decode_selects :
    [0x10, 0x20, 0x21, 0x22, 0x30, 0x31, 0x32, 0x33, 0x34, 0x40, 0x41, 0x42, 0x43, 0x50, 0x51, 0x52,
      0x53, 0x54, 0x00].map (fun w : Select => decode (.uop w)) =
    [some .dmxDemux, some .rbConfigure, some .rbWrite, some .rbRead, some .trgSetVertical,
      some .trgSetHorizontal, some .trgSetEdge, some .trgReset, some .trgProcess, some .brgInit,
      some .brgAcqRegion, some .brgDataWritten, some .brgSwitchIfNeeded, some .rdrOpen,
      some .rdrRequestAndWait, some .rdrReadHeader, some .rdrReadRegion, none, none] := by decide +kernel

/-- The table's numbering: a row of 8 bits is a select, a row of 64 bits a command word. -/
theorem test_decode_table_words :
    decodeTableWord 8 0x21 = some .rbWrite ∧
    decodeTableWord 64 0x05000000000007D0 = some (.setDepth 2000) := by decide +kernel

/-! ### Commands: the examples of 43_controller_commands.md -/

/-- R213: from a stopped core, `RUN` gives `C.runMode = 1` and an Unarmed engine. -/
theorem test_run_restarts_the_engine :
    after (fun t => (t.c.runMode, t.trg.state, t.trg.captureRemaining))
      (exec .run
        (engine (fun t => { t with state := .inCapture, captureRemaining := 308 })
          (ctl (fun c => { c with runMode := false }) base))) =
      some (true, .unarmed, 0) := by decide +kernel

/-- R213: `RUN` while running does not reset the engine. -/
theorem test_run_while_running :
    after (fun t => t.trg.captureRemaining)
      (exec .run (engine (fun t => { t with state := .inCapture, captureRemaining := 308 }) base)) =
      some 308 := by decide +kernel

theorem test_stop : after (fun t => t.c.runMode) (exec .stop base) = some false := by decide +kernel
theorem test_force : after (fun t => t.c.forcePending) (exec .force base) = some true := by
  decide +kernel

/-- R217: `SET_MODE` clears the two counters. -/
theorem test_set_mode :
    after (fun t => (t.cfg.mode, t.c.streamCount, t.bw.shadow.proc.triggerMode))
      (exec (.setMode .single) (ctl (fun c => { c with streamCount := 5 }) base)) =
      some (.single, 0, 1) := by decide +kernel

/-- R216: 2000 is accepted; the rings are re-created at `2000 + L`. -/
theorem test_set_depth :
    after (fun t => (t.cfg.W, t.rb[0].cap, t.trg.captureSamples))
      (exec (.setDepth 2000) (lanes 1)) = some (2000, 6096, 1800) := by decide +kernel

/-- R216, R226: 999 is rejected with the word as it came. -/
theorem test_set_depth_rejected :
    after (fun t => (t.cfg.W, t.err)) (exec (.setDepth 999) (lanes 1)) =
      some (1000, ⟨1, 0x01, 0x05000000000003E7, 0⟩) := by decide +kernel

/-- R218. -/
theorem test_set_rate :
    after (fun t => (t.cfg, t.err.count)) (exec (.setRate 1000000000) base) = some (base.cfg, 0) := by
  decide +kernel

/-- R219: one lane, 200 samples; four lanes, 50. -/
theorem test_set_delay :
    after (fun t => t.cfg.pos) (exec (.setDelay 200000000) (lanes 1)) = some 200 ∧
    after (fun t => t.cfg.pos) (exec (.setDelay 200000000) (lanes 4)) = some 50 := by decide +kernel

/-- R220: two lanes, lane 1 is selected and lane 2 rejected. -/
theorem test_set_src :
    after (fun t => (t.cfg.src, t.err.code)) (exec (.setSrc 1) (lanes 2)) = some (1, 0) ∧
    after (fun t => (t.cfg.src, t.err.code)) (exec (.setSrc 2) (lanes 2)) = some (0, 0x04) := by
  decide +kernel

/-- R221, Scenario C: 600 000 uV of 1 000 000 is rejected, 250 000 accepted. -/
theorem test_set_level :
    after (fun t => (t.err.code, t.err.cmd)) (exec (.setLevel 600000) (lanes 1)) =
      some (0x03, 0x09000000000927C0) ∧
    after (fun t => t.err.count) (exec (.setLevel 250000) (lanes 1)) = some 0 := by decide +kernel

/-- R222. -/
theorem test_set_type :
    after (fun t => (t.cfg.edge, t.trg.enR, t.trg.enF)) (exec (.setType .falling) base) =
      some (.falling, false, true) := by decide +kernel

/-- R223: the answers for 1, 2 and 4 lanes. -/
theorem test_get_rate :
    [1, 2, 4].map (fun n => after (fun t => t.c.rspHold) (exec .getRate (lanes n))) =
      [some (some 0x8B0000003B9ACA00), some (some 0x8B0000001DCD6500),
        some (some 0x8B0000000EE6B280)] := by decide +kernel

/-- R223: the answer waits for room on `RSPQ`. -/
theorem test_get_rate_enqueues_when_there_is_room :
    after (fun t => (t.rspq, t.c.rspHold)) (step (ctl (fun c => { c with rspHold := some 7 }) base)) =
      some ([7], none) ∧
    after (fun t => (t.rspq, t.c.rspHold))
      (step { ctl (fun c => { c with rspHold := some 7 }) base with rspq := [1, 2, 3, 4] }) =
      some ([1, 2, 3, 4], some 7) := by decide +kernel

/-! ### Lane Demultiplexer and rings: 40_demux.md R145, 41_ring_buffer.md R154, R162 -/

/-- A held block of 8 bytes and a channel count. -/
def holding (n : Nat) : State :=
  ports (fun q => { q with n := n })
    (ctl (fun c => { c with blk := some [1, 2, 3, 4, 5, 6, 7, 8] })
      { base with par := { tiny with blockBytes := 8 } })

theorem test_demux_four_lanes :
    after (fun t => t.c.lanes) (exec .dmxDemux (holding 4)) =
      some [[1, 5], [2, 6], [3, 7], [4, 8]] := by decide +kernel

theorem test_demux_two_lanes_and_three :
    after (fun t => t.c.lanes) (exec .dmxDemux (holding 2)) =
      some [[1, 3, 5, 7], [2, 4, 6, 8]] ∧
    after (fun t => (t.c.lanes, t.err.code)) (exec .dmxDemux (holding 3)) = some ([], 0x07) := by
  decide +kernel

theorem test_rb_configure :
    after (fun t => t.rb[0]) (exec .rbConfigure (ports (fun q => { q with cap := 8 }) base)) =
      some ⟨8, 0, [], 0⟩ := by decide +kernel

/-- `cap = 8`, `wr = 6`, write `[7, 8, 9]`: cells 6, 7, 0 and `wr = 1` (R154). -/
theorem test_rb_write_wraps :
    after (fun t => t.rb[0])
      (exec .rbWrite
        (ring (fun _ => ⟨8, 6, [(0, 1), (1, 2)], 6⟩)
          (ports (fun q => { q with lane := [7, 8, 9] }) base))) =
      some ⟨8, 1, [(0, 9), (1, 2), (6, 7), (7, 8)], 8⟩ := by decide +kernel

/-- The ring of R162 after its three writes. -/
def ring162 (len : Nat) (endOffset : BitVec 33) : State :=
  ring
    (fun _ => ⟨8, 1, [(0, 9), (1, 2), (2, 3), (3, 4), (4, 5), (5, 6), (6, 7), (7, 8)], 8⟩)
    (ports (fun q => { q with len := len, endOffset := endOffset }) base)

theorem test_rb_read_windows :
    after (fun t => t.port.dest) (exec .rbRead (ring162 4 0)) = some [6, 7, 8, 9] ∧
    after (fun t => t.port.dest) (exec .rbRead (ring162 5 3)) = some [2, 3, 4, 5, 6] ∧
    after (fun t => t.port.dest) (exec .rbRead (ring162 8 0)) = some [2, 3, 4, 5, 6, 7, 8, 9] := by
  decide +kernel

theorem test_rb_read_bounds :
    after (fun t => (t.err.fatal, t.c.halted)) (exec .rbRead (ring162 6 3)) = some (0x80, true) := by
  decide +kernel

/-! ### Edge Trigger Engine: 42_trigger_engine.md R171 to R176, R194 -/

theorem test_trg_set_vertical_nudges :
    after (fun t => (t.trg.level.toInt, t.trg.lo.toInt, t.trg.hi.toInt))
      (exec .trgSetVertical (ports (fun q => { q with level := 0x80, hyst := 3 }) base)) =
      some (-125, -128, -122) ∧
    after (fun t => (t.trg.level.toInt, t.trg.lo.toInt, t.trg.hi.toInt))
      (exec .trgSetVertical (ports (fun q => { q with level := 0x7F, hyst := 3 }) base)) =
      some (124, 121, 127) := by decide +kernel

theorem test_trg_set_vertical_rejects :
    after (fun t => (t.trg.hyst, t.err.code))
      (exec .trgSetVertical (ports (fun q => { q with hyst := 128 }) base)) = some (1, 0x08) := by
  decide +kernel

theorem test_trg_set_horizontal :
    after (fun t => (t.trg.captureSamples, t.trg.holdoffSamples))
      (exec .trgSetHorizontal (ports (fun q => { q with W := 2000, pos := 500, add := 0 }) base)) =
      some (1500, 500) := by decide +kernel

theorem test_trg_set_horizontal_rejects :
    after (fun t => t.err.code)
      (exec .trgSetHorizontal (ports (fun q => { q with W := 500, pos := 500 }) base)) =
      some 0x08 := by decide +kernel

theorem test_trg_set_edge :
    after (fun t => (t.trg.enR, t.trg.enF))
      (exec .trgSetEdge (ports (fun q => { q with edge := .falling }) base)) =
      some (false, true) := by decide +kernel

theorem test_trg_reset :
    after (fun t => (t.trg.state, t.trg.captureRemaining))
      (exec .trgReset (engine (fun t => { t with state := .inCapture, captureRemaining := 308 }) base)) =
      some (.unarmed, 0) := by decide +kernel

/-- R194, the first of four lanes of 512: no end, 308 samples still to capture. -/
theorem test_trg_process_first_lane :
    after (fun t => (t.trg.ends, t.trg.state, t.trg.captureRemaining))
      (exec .trgProcess
        (ports
          (fun q =>
            { q with
              lane := List.replicate 10 20 ++ List.replicate 10 (.ofInt 8 (-10)) ++
                List.replicate 492 30 })
          (lanes 1))) =
      some ([], .inCapture, 308) := by decide +kernel

/-- R194, the second lane: one end, at 308. -/
theorem test_trg_process_second_lane :
    after (fun t => (t.trg.ends, t.trg.state))
      (exec .trgProcess
        (engine (fun t => { t with state := .inCapture, captureRemaining := 308 })
          (ports (fun q => { q with lane := List.replicate 512 30 }) (lanes 1)))) =
      some ([308], .unarmed) := by decide +kernel

/-! ### Bridge: the examples of 45_bridge.md -/

/-- R281: `MAXW = 4096` gives `dataCapacityBytes = 32768`. -/
theorem test_brg_init :
    after (fun t => (t.bw.shadow.dataCapacityBytes, t.bw.shadow.activeRegion, t.semReq))
      (exec .brgInit { lanes 2 with semReq := 1 }) = some (32768, 1, 0) := by decide +kernel

/-- R283: `activeRegion = 2`, two lanes, `CFG.W = 1000`, `MAXW = 4096`. -/
theorem test_brg_acq_region :
    after (fun t => (t.port.viewBase, t.port.viewSize))
      (exec .brgAcqRegion
        (writer (fun b => { b with shadow := { b.shadow with activeRegion := 2 } }) (lanes 2))) =
      some (16456, 2000) := by decide +kernel

/-- R285: the second call with no swap between: total 2, dropped 1. -/
theorem test_brg_data_written :
    after (fun t => (t.bw.shadow.totalAcquisitions, t.bw.shadow.droppedAcquisitions, t.bw.filled))
      (exec .brgDataWritten
        (writer
          (fun b => { b with filled := true, shadow := { b.shadow with totalAcquisitions := 1 } })
          base)) =
      some (2, 1, true) := by decide +kernel

/-- R287: `BW.filled = 1`, `SEM.req = 1`, `activeRegion = 1`. -/
theorem test_brg_switch :
    after (fun t => (t.semReq, t.semResp, t.bw.filled, t.bw.shadow.activeRegion))
      (exec .brgSwitchIfNeeded { writer (fun b => { b with filled := true }) base with semReq := 1 }) =
      some (0, 1, false, 2) ∧
    after (fun t => t.seg.read? 18)
      (exec .brgSwitchIfNeeded { writer (fun b => { b with filled := true }) base with semReq := 1 }) =
      some (some 2) := by decide +kernel

/-- R287: a request with nothing filled stays cached. -/
theorem test_brg_switch_caches :
    after (fun t => (t.semReq, t.bw.reqPending, t.semResp, t.port.swapped))
      (exec .brgSwitchIfNeeded { base with semReq := 1 }) = some (0, true, 0, false) := by
  decide +kernel

/-- R298: after reset, `RDR.OPEN` succeeds at once. -/
theorem test_rdr_open : after (fun t => t.br.isOpen) (exec .rdrOpen base) = some true := by
  decide +kernel

/-- R300: the first call raises the request; a second, still latched, does not raise again. -/
theorem test_rdr_request :
    after (fun t => (t.semReq, t.br.latched, t.br.waiting))
      (exec .rdrRequestAndWait (reader (fun r => { r with isOpen := true }) base)) =
      some (1, true, true) ∧
    after (fun t => t.semReq)
      (exec .rdrRequestAndWait (reader (fun r => { r with isOpen := true, latched := true }) base)) =
      some 0 := by decide +kernel

/-- R304: before any swap it returns the `BRG.INIT` header. -/
theorem test_rdr_read_header :
    after (fun t => ((headerOfBytes t.br.hdr).activeRegion, (headerOfBytes t.br.hdr).version))
      (exec .rdrReadHeader (reader (fun r => { r with isOpen := true }) base)) = some (1, 1) := by
  decide +kernel

/-- A reader in its window, RegionB acquiring, twelve bytes delivered to RegionA. -/
def delivered : State :=
  let s := publish (writer (fun b => { b with shadow := { b.shadow with activeRegion := 2 } }) base)
  { s with
    seg := s.seg.writeBytes 72 [10, 11, 12, 13, 14, 15, 20, 21, 22, 23, 24, 25]
    br := { s.br with isOpen := true, inWindow := true } }

/-- A reader whose next byte is at an address, with `more` bytes after it. -/
def readingAt (addr more : Nat) (s : State) : State :=
  reader (fun r => { r with isOpen := true, reading := some { addr := addr, more := more } }) s

/-- R306: `activeRegion = 2`, two channels of six samples: `SEG[72 .. 83]`, its last byte the 25 stored
there. -/
theorem test_rdr_read_region :
    after (fun t => t.br.reading) (exec .rdrReadRegion delivered) = some (some ⟨72, 11⟩) ∧
    after (fun t => (t.port.bytes, t.br.reading)) (exec .rdrReadRegion (readingAt 83 0 delivered)) =
      some ([25], none) := by decide +kernel

/-- R88, R376: a reader outside its window with a request outstanding draws a free value while `CTL` may
write; once `CTL` has exited it gets the byte stored. -/
theorem test_rdr_read_region_race :
    after (fun t => t.free)
      (exec .rdrReadRegion
        (reader (fun r => { r with latched := true, inWindow := false }) (readingAt 83 0 delivered))) =
      some 1 ∧
    after (fun t => (t.free, t.port.bytes))
      (exec .rdrReadRegion
        (ctl (fun c => { c with phase := .exit })
          (reader (fun r => { r with latched := true, inWindow := false })
            (readingAt 83 0 delivered)))) =
      some (0, [25]) := by decide +kernel

/-! ### A step of the machine -/

/-- A placed command word is the next operation. -/
theorem test_step_runs_a_placed_word :
    after (fun t => t.cfg.W) (step (State.reset.withFetchWord 64 0x05000000000007D0)) = some 2000 := by
  decide +kernel

/-- R73, R250: byte 5 of channel 1's window, windows of 6, goes to `72 + 1 * 6 + 5`, in a step of its
own. -/
theorem test_deliver_stores_one_byte :
    after (fun t => (t.seg.read? 83, t.c.todo))
      (step (ctl (fun c => { c with todo := [.storeBytes 1 5 [9]] }) base)) =
      some (some 9, [.storeBytes 1 6 []]) := by decide +kernel

/-- A placed select is the next operation. -/
theorem test_step_runs_a_placed_select :
    after (fun t => t.br.isOpen) (step (State.reset.withFetchWord 8 0x50)) = some true := by
  decide +kernel

/-! ### Witnesses: states and operands that meet the hypotheses of the statements

One theorem per statement, `wit_<statement>`; a statement with several clauses has a witness for each,
at a boundary of its range where it has one. -/

theorem wit_DecodeInvertsEncode :
    (Instr.setLevel (-2 ^ 31)).wellFormed = true ∧ (Instr.setDelay (2 ^ 56 - 1)).wellFormed = true := by
  decide +kernel

theorem wit_EncodeInvertsDecode :
    decode (.cmd 0x0900000080000000) = some (.setLevel (-2 ^ 31)) ∧
    decode (.uop 0x53) = some .rdrReadRegion := by decide +kernel

/-- `CTL` in a phase, with work still to do. -/
def inPhase (phase : Phase) (todo : List Micro) : State :=
  ctl (fun c => { c with phase := phase, todo := todo }) base

theorem turn_inPhase (phase : Phase) (todo : List Micro) (h : phase ≠ .exit) :
    CtlTurn (inPhase phase todo) [] :=
  ⟨(by decide +kernel : tiny.valid = true), rfl, rfl,
    by cases phase <;> first | rfl | exact absurd rfl h, rfl⟩

theorem wit_StepRunsHeadCommand :
    (∃ s : State, CtlTurn s [] ∧ s.c.todo = [] ∧ s.c.phase = .cmd ∧
      s.cmdq = [0x0A00000000000001] ∧ decode (.cmd 0x0A00000000000001) = some (.setType .falling)) ∧
    (∃ s : State, CtlTurn s [] ∧ s.c.todo = [] ∧ s.c.phase = .cmd ∧ s.cmdq = []) :=
  ⟨⟨{ inPhase .cmd [] with cmdq := [0x0A00000000000001] }, turn_inPhase .cmd [] (by decide), rfl, rfl,
      rfl, by decide +kernel⟩,
    inPhase .cmd [], turn_inPhase .cmd [] (by decide), rfl, rfl, rfl⟩

theorem wit_UnknownWordIsRejected :
    ∃ s : State, CtlTurn s [] ∧ s.c.todo = [] ∧ s.c.phase = .cmd ∧ s.cmdq = [0x0A00000000000002] ∧
      tableCommand ((0x0A00000000000002 : Word64).extractLsb' 56 8).toNat
        ((0x0A00000000000002 : Word64).extractLsb' 0 56).toNat = none :=
  ⟨{ inPhase .cmd [] with cmdq := [0x0A00000000000002] }, turn_inPhase .cmd [] (by decide), rfl, rfl,
    rfl, by decide +kernel⟩

theorem wit_StepRunsPresentedSelect :
    base.par.valid = true ∧
    (decode (.uop 0x33) = some .trgReset ∧ uopEnabled .trgReset base = true) ∧
    (decode (.uop 0x52) = some .rdrReadHeader ∧ uopEnabled .rdrReadHeader base = false) ∧
    decode (.uop 0x54) = none := by decide +kernel

theorem wit_OutsideTheDomainIsRefused :
    ({ base with par := { tiny with nch := 3 } } : State).par.valid = false ∧
    ((reader (fun r => { r with isOpen := true, latched := true }) base).br.isOpen = true ∧
      (reader (fun r => { r with isOpen := true, latched := true }) base).br.latched = true) ∧
    (ports (fun q => { q with cap := 0 }) base).port.cap = 0 ∧
    ((ring (fun r => { r with cap := 0 }) (ports (fun q => { q with lane := [1] }) base)).rb[0].cap = 0 ∧
      (ports (fun q => { q with lane := [1] }) base).port.lane ≠ []) := by decide +kernel

theorem wit_CommandRejections :
    (decodeCmd 0x0500000000000003 = some (.setDepth 3) ∧ 3 < base.par.minw) ∧
    (decodeCmd 0x0500000000000009 = some (.setDepth 9) ∧ base.par.maxw < 9) ∧
    (∃ s : State, decodeCmd 0x0500000000000004 = some (.setDepth 4) ∧ s.par.minw ≤ 4 ∧
      4 ≤ s.par.maxw ∧ 4 ≤ s.cfg.pos.toNat) ∧
    (decodeCmd 0x09000000FFF85EDF = some (.setLevel (-500001)) ∧
      ((base.par.fsUv[base.cfg.src.toNat]'base.cfg.src.isLt).toNat : Int) < 2 * |(-500001 : Int)|) ∧
    (decodeCmd 0x0700000000000002 = some (.setSrc 2) ∧ base.par.nch ≤ 2) ∧
    (decodeCmd 0x0800000000B71B00 = some (.setDelay 12000000) ∧
      base.cfg.W.toNat ≤ 12000000 * rateHz base.par / 10 ^ 15) :=
  ⟨by decide +kernel, by decide +kernel,
    ⟨{ base with cfg := { base.cfg with pos := 4 } }, by decide +kernel⟩,
    by decide +kernel, by decide +kernel, by decide +kernel⟩

theorem wit_CommandsAcceptOrReject :
    isCommand .getRate = true ∧ base.par.valid = true ∧
    ({ base.cfg with hyst := 127 } : Cfg).hyst.toNat ≤ 127 := by decide +kernel

theorem wit_StoppedControllerFreezes :
    (∃ s t : State, s.c.halted = true ∧ step s = .next t) ∧
    (∃ s t : State, s.c.phase = .exit ∧ step s = .next t) := by
  have h₁ : isNext (step (ctl (fun c => { c with halted := true }) base)) = true := by decide +kernel
  have h₂ : isNext (step { inPhase .exit [] with agenda := [.hostCancel] }) = true := by
    decide +kernel
  obtain ⟨t₁, h₁⟩ := next_of_isNext h₁
  obtain ⟨t₂, h₂⟩ := next_of_isNext h₂
  exact ⟨⟨_, t₁, rfl, h₁⟩, ⟨_, t₂, rfl, h₂⟩⟩

theorem wit_RunControlCommandsComplete :
    (ctl (fun c => { c with runMode := false }) base).c.runMode = false ∧ base.c.runMode = true := by
  decide +kernel

theorem wit_ModeTypeAndSourceComplete : 1 < base.par.nch := by decide +kernel

theorem wit_SetDepthCompletes :
    base.par.valid = true ∧ (base.par.minw ≤ 4 ∧ 4 ≤ base.par.maxw ∧ base.cfg.pos.toNat < 4) ∧
    (base.par.minw ≤ 8 ∧ 8 ≤ base.par.maxw ∧ base.cfg.pos.toNat < 8) := by decide +kernel

theorem wit_SetDelayCompletes :
    5 = 10000000 * rateHz base.par / 10 ^ 15 ∧ 5 < base.cfg.W.toNat := by decide +kernel

theorem wit_SetLevelCompletes :
    500000 * 2 = (base.par.fsUv[base.cfg.src.toNat]'base.cfg.src.isLt).toNat ∧
    2 * |(-500000 : Int)| ≤ ((500000 * 2 : Nat) : Int) ∧ base.cfg.hyst.toNat ≤ 127 := by
  decide +kernel

theorem wit_GetRateAnswers :
    (∃ s : State, CtlTurn { s with c := { s.c with rspHold := none } } [] ∧ s.c.rspHold = some 7 ∧
      s.rspq.length < s.par.rspqDepth) ∧
    (∃ s : State, CtlTurn { s with c := { s.c with rspHold := none } } [] ∧ s.c.rspHold = some 7 ∧
      s.par.rspqDepth ≤ s.rspq.length) ∧
    ∃ s : State, CtlTurn s [.ctl] ∧ s.c.todo = [] ∧ s.c.phase = .cmd ∧ s.cmdq = [0x0B00000000000000] ∧
      decodeCmd 0x0B00000000000000 = some .getRate ∧ s.rspq.length < s.par.rspqDepth :=
  ⟨⟨ctl (fun c => { c with phase := .cmd, rspHold := some 7 }) base,
      turn_inPhase .cmd [] (by decide), rfl, by decide +kernel⟩,
    ⟨{ ctl (fun c => { c with phase := .cmd, rspHold := some 7 }) base with rspq := [0, 0, 0, 0] },
      turn_inPhase .cmd [] (by decide), rfl, by decide +kernel⟩,
    { inPhase .cmd [] with cmdq := [0x0B00000000000000], agenda := [.ctl, .ctl] },
    ⟨by decide +kernel, rfl, rfl, rfl, rfl⟩, rfl, rfl, rfl, by decide +kernel, by decide +kernel⟩

theorem wit_CommandsTouchOnlyConfiguration :
    isCommand (.setDepth 8) = true ∧ ∃ t, exec (.setDepth 8) base = .next t :=
  ⟨by decide +kernel, next_of_isNext (by decide +kernel)⟩

theorem wit_DemuxCompletes :
    ((holding 4).port.n = 4 ∧ (holding 4).c.blk = some [1, 2, 3, 4, 5, 6, 7, 8] ∧
      8 = (holding 4).par.blockBytes) ∧
    ((holding 1).port.n = 1 ∧ (holding 2).port.n = 2) ∧
    (base.port.n = 2 ∧ base.c.blk = none) ∧
    ((holding 3).port.n ≠ 1 ∧ (holding 3).port.n ≠ 2 ∧ (holding 3).port.n ≠ 4) ∧
    (0 < 4 ∧ 4 ∣ ([1, 2, 3, 4, 5, 6, 7, 8] : List Byte).length) := by decide +kernel

theorem wit_RbConfigureAndWriteComplete :
    (ports (fun q => { q with cap := 1 }) base).port.cap ≠ 0 ∧
    (ports (fun q => { q with lane := [7, 8, 9] }) base).rb[0].cap ≠ 0 := by decide +kernel

theorem wit_RbReadCompletes :
    ((ring162 4 4).port.len + (ring162 4 4).port.endOffset.toNat ≤ (ring162 4 4).rb[0].cap.toNat ∧
      ((8 : Nat) : Int) ≠ (1 - 4 - 4 + 0) % 8 ∧ ((1 : Nat) : Int) = (1 - 4 - 4 + 0) % 8) ∧
    (ring162 5 4).rb[0].cap.toNat < (ring162 5 4).port.len + (ring162 5 4).port.endOffset.toNat := by
  decide +kernel

theorem wit_RingHoldsTheLastSamples : (4 : BitVec 33) ≠ 0 := by decide +kernel

theorem wit_RingReturnsTheWindowWritten :
    3 + 1 ≤ (4 : BitVec 33).toNat ∧ 3 + 1 ≤ ([[1, 2, 3], [4, 5]] : List (List Byte)).flatten.length ∧
    windowCells (ringAfter 4 [[1, 2, 3], [4, 5]]) 3 1 = [some 2, some 3, some 4] := by decide +kernel

theorem wit_WindowIsTwoPieces :
    (ringAfter 4 [[1, 2, 3], [4, 5]]).cap ≠ 0 ∧ 3 + 1 ≤ (ringAfter 4 [[1, 2, 3], [4, 5]]).cap.toNat ∧
    3 = min 3 ((ringAfter 4 [[1, 2, 3], [4, 5]]).cap.toNat -
      windowStart (ringAfter 4 [[1, 2, 3], [4, 5]]) 3 1) ∧
    2 = min 3 ((ringAfter 4 [[1, 2, 3], [4, 5, 6]]).cap.toNat -
      windowStart (ringAfter 4 [[1, 2, 3], [4, 5, 6]]) 3 1) := by decide +kernel

theorem wit_TrgConfigurationCompletes :
    (ports (fun q => { q with hyst := 127 }) base).port.hyst.toNat ≤ 127 ∧
    127 < (ports (fun q => { q with hyst := 128 }) base).port.hyst.toNat ∧
    (base.port.pos.toNat < base.port.W.toNat) ∧
    (ports (fun q => { q with W := 0, pos := 0 }) base).port.W.toNat ≤
      (ports (fun q => { q with W := 0, pos := 0 }) base).port.pos.toNat := by decide +kernel

theorem wit_TriggerStepRules :
    [TrgState.unarmed, .armedRising, .armedFalling, .inCapture, .inHoldoff].map
      (fun q => (engine (fun t => { t with state := q }) base).trg.state) =
      [.unarmed, .armedRising, .armedFalling, .inCapture, .inHoldoff] := by decide +kernel

theorem wit_TrgProcessCompletes :
    (trgScan base.trg 0 [0xFE, 1]).1 =
      (trgScan base.trg 0 (ports (fun q => { q with lane := [0xFE, 1] }) base).port.lane).1 ∧
    (ports (fun q => { q with lane := [0xFE, 1] }) base).port.lane.length < 2 ^ 32 := by decide +kernel

/-- Window 3, position 1, no additional holdoff, arm band from -1 to 1. -/
def smallTrg : Trg :=
  { trgHorizontal base.trg 3 1 0 with enR := true, enF := false }

theorem wit_CaptureEndsAreSpaced :
    smallTrg.pos.toNat < smallTrg.W.toNat ∧
    smallTrg.captureSamples.toNat = smallTrg.W.toNat - smallTrg.pos.toNat ∧
    smallTrg.holdoffSamples.toNat = smallTrg.pos.toNat + smallTrg.add.toNat ∧
    (trgScan smallTrg 0 [0xFF, 1, 1, 1, 0xFF, 1, 1]).2 = [3, 7] := by decide +kernel

theorem wit_StepInputTriggersOnce :
    (smallTrg.state = .unarmed ∧ 0 < 1 ∧ 1 + 2 < 2 ^ 32 ∧ smallTrg.captureSamples ≠ 0 ∧
      smallTrg.captureSamples.toNat ≤ 2 ∧ smallTrg.lo.toInt ≤ smallTrg.level.toInt ∧
      smallTrg.level.toInt ≤ smallTrg.hi.toInt) ∧
    (smallTrg.enR = true ∧ smallTrg.enF = false ∧ (0xFF : Byte).toInt ≤ smallTrg.lo.toInt ∧
      smallTrg.level.toInt < (1 : Byte).toInt) ∧
    (smallTrg.hi.toInt ≤ (1 : Byte).toInt ∧ (0xFF : Byte).toInt < smallTrg.level.toInt ∧
      ({ smallTrg with enR := false, enF := true } : Trg).enF = true) ∧
    ({ smallTrg with state := .inHoldoff } : Trg).state = .inHoldoff := by decide +kernel

theorem wit_BrgRegionAndDataWrittenComplete :
    [1, 2, 0].map (fun a : Byte =>
      (writer (fun b => { b with shadow := { b.shadow with activeRegion := a } })
        base).bw.shadow.activeRegion) = [1, 2, 0] := by decide +kernel

theorem wit_BrgSwitchCompletes :
    (∃ s : State, true = (s.bw.reqPending || decide (0 < s.semReq)) ∧
      0 = (if s.bw.reqPending then s.semReq else s.semReq - 1) ∧ s.bw.filled = true) ∧
    (false = (base.bw.reqPending || decide (0 < base.semReq)) ∧
      0 = (if base.bw.reqPending then base.semReq else base.semReq - 1) ∧ base.bw.filled = false) :=
  ⟨⟨{ writer (fun b => { b with filled := true }) base with semReq := 1 }, by decide +kernel⟩,
    by decide +kernel⟩

theorem wit_RdrOpenAndReadHeaderComplete :
    (¬(base.br.isOpen = true ∧ base.br.latched = true) ∧
      (headerOfBytes (publishedHeader base)).version ≠ 0) ∧
    (headerOfBytes (publishedHeader { base with seg := [] })).version = 0 ∧
    ((reader (fun r => { r with isOpen := true }) base).br.isOpen = true ∧
      (reader (fun r => { r with isOpen := true }) base).br.waiting = false) := by decide +kernel

theorem wit_RdrRequestAndWaitCompletes :
    (reader (fun r => { r with isOpen := true }) base).br.isOpen = true ∧
    (reader (fun r => { r with isOpen := true, waiting := true }) base).br.waiting = true ∧
    0 < ({ base with semResp := 1 } : State).semResp ∧ base.semResp = 0 := by decide +kernel

theorem wit_RdrReadRegionCompletes :
    (delivered.br.isOpen = true ∧ delivered.br.waiting = false ∧ delivered.br.inWindow = true ∧
      (headerOfBytes (publishedHeader delivered)).activeRegion = 2 ∧
      12 = (headerOfBytes (publishedHeader delivered)).proc.channelCount.toNat *
        (headerOfBytes (publishedHeader delivered)).proc.channelLength.toNat *
        (headerOfBytes (publishedHeader delivered)).channelDataWidth.toNat ∧
      72 + 12 ≤ segBytes delivered.par ∧ delivered.br.reading = none) ∧
    ({ delivered with agenda := .con .readRegion :: List.replicate 12 .conRead } : State).agenda =
      .con .readRegion :: List.replicate 12 .conRead ++ [] ∧
    (delivered.par.valid = true ∧ delivered.uop = none) ∧
    ((headerOfBytes (publishedHeader base)).activeRegion = 1 ∧
      72 + 4 * base.par.maxw + 12 ≤ segBytes base.par) ∧
    ((readingAt 135 0 base).br.reading = some ⟨135, 0⟩ ∧ 135 < segBytes base.par ∧
      segBytes base.par ≤ 136 ∧ readRaces (readingAt 135 0 base) = false ∧
      readRaces (reader (fun r => { r with latched := true }) (readingAt 135 0 base)) = true) ∧
    ((headerOfBytes (publishedHeader { base with seg := [(18, 3)] })).activeRegion ≠ 1 ∧
      (headerOfBytes (publishedHeader { base with seg := [(18, 3)] })).activeRegion ≠ 2) := by
  decide +kernel

/-- A core with five turns of `CTL` to come, in a phase that runs the swap check; `due` says whether a
swap is. -/
def checking (phase : Phase) (due : Bool) : State :=
  let s := writer (fun b => { b with filled := due, reqPending := due }) (inPhase phase [])
  { s with par := { tiny with swapOnIdle := true }, agenda := List.replicate 5 .ctl }

theorem turn_checking (phase : Phase) (due : Bool) (h : phase ≠ .exit) :
    CtlTurn (checking phase due) [.ctl, .ctl, .ctl, .ctl] :=
  ⟨(by decide +kernel : ({ tiny with swapOnIdle := true } : Params).valid = true), rfl, rfl,
    by cases phase <;> first | rfl | exact absurd rfl h, rfl⟩

theorem wit_PhaseTransitions :
    (CtlTurn (inPhase .check []) [] ∧ CtlTurn (inPhase .wait []) [] ∧ CtlTurn (inPhase .ret []) [] ∧
      CtlTurn (inPhase .swap []) [] ∧ CtlTurn (inPhase .swap [.goto .check]) []) ∧
    (∃ s : State, CtlTurn s [] ∧ s.c.phase = .wait ∧ s.blkq = [[1]] ∧ s.c.todo = []) ∧
    (∃ s : State, CtlTurn s [] ∧ s.c.phase = .wait ∧ s.blkq = [] ∧ s.par.swapOnIdle = true) ∧
    base.par.swapOnIdle = false ∧
    (∃ s : State, CtlTurn s [] ∧ s.c.phase = .ret ∧ s.c.blk = some [1] ∧ s.c.todo = []) ∧
    ∀ due : Bool, (CtlTurn (checking .swap due) ([.ctl, .ctl, .ctl, .ctl] ++ []) ∧
        due = (switchIfNeeded (checking .swap due)).1) ∧
      CtlTurn (checking .wait due) ([.ctl, .ctl, .ctl, .ctl] ++ []) ∧
        (checking .wait due).blkq = [] ∧ (checking .wait due).par.swapOnIdle = true :=
  ⟨⟨turn_inPhase .check [] (by decide), turn_inPhase .wait [] (by decide),
      turn_inPhase .ret [] (by decide), turn_inPhase .swap [] (by decide),
      turn_inPhase .swap [.goto .check] (by decide)⟩,
    ⟨{ inPhase .wait [] with blkq := [[1]] }, turn_inPhase .wait [] (by decide), rfl, rfl, rfl⟩,
    ⟨{ inPhase .wait [] with par := { tiny with swapOnIdle := true } },
      ⟨by decide +kernel, rfl, rfl, rfl, rfl⟩, rfl, rfl, rfl⟩,
    rfl,
    ⟨ctl (fun c => { c with phase := .ret, blk := some [1] }) base, turn_inPhase .ret [] (by decide),
      rfl, rfl, rfl⟩,
    fun due => ⟨⟨turn_checking .swap due (by decide), by cases due <;> decide +kernel⟩,
      turn_checking .wait due (by decide), rfl, rfl⟩⟩

theorem wit_FeedPhaseStep :
    ∃ s : State, CtlTurn s [] ∧ s.c.todo = [] ∧ s.c.phase = .feed ∧
      s.c.blk = some (List.replicate 16 5) ∧ (List.replicate 16 (5 : Byte)).length = s.par.blockBytes ∧
      ∀ c : Fin 4, c.val < s.par.nch → s.rb[c].cap ≠ 0 :=
  ⟨ctl (fun c => { c with phase := .feed, blk := some (List.replicate 16 5) }) base,
    turn_inPhase .feed [] (by decide), rfl, rfl, rfl, rfl, by decide +kernel⟩

/-- A running core in a mode, about to dispatch. -/
def triggering (mode : TrigMode) : State :=
  { inPhase .trig [] with cfg := { base.cfg with mode := mode } }

theorem wit_TriggerPhaseStep (mode : TrigMode) :
    CtlTurn (triggering mode) [] ∧ (triggering mode).c.todo = [] ∧ (triggering mode).c.phase = .trig ∧
    (triggering mode).c.runMode = true ∧ (triggering mode).cfg.mode = mode ∧
    CtlTurn (ctl (fun c => { c with runMode := false }) (triggering mode)) [] :=
  ⟨turn_inPhase .trig [] (by decide), rfl, rfl, rfl, rfl, turn_inPhase .trig [] (by decide)⟩

theorem wit_CaptureEndsAreDelivered :
    CtlTurn (inPhase .trig [.scan]) [] ∧ CtlTurn (inPhase .trig [.deliverEnds []]) [] ∧
    CtlTurn (inPhase .trig [.deliverEnds [1, 8]]) [] ∧ CtlTurn (inPhase .trig [.endDelivered [8]]) [] :=
  ⟨turn_inPhase _ _ (by decide), turn_inPhase _ _ (by decide), turn_inPhase _ _ (by decide),
    turn_inPhase _ _ (by decide)⟩

theorem wit_ForceTimeoutAndStreamDeliveries (pending done : Bool) :
    (∃ s : State, CtlTurn s [] ∧ s.c.todo = [.serviceForce] ∧ s.c.forcePending = pending ∧
      s.c.delivered = done) ∧
    CtlTurn (inPhase .trig [.forceServed]) [] ∧
    (∃ s : State, CtlTurn s [] ∧ s.c.todo = [.autoTimeout] ∧ s.c.delivered = done) ∧
    CtlTurn (inPhase .trig [.streamLoop]) [] ∧ CtlTurn (inPhase .trig [.streamTaken]) [] :=
  ⟨⟨ctl (fun c => { c with forcePending := pending, delivered := done })
        (inPhase .trig [.serviceForce]),
      turn_inPhase .trig [.serviceForce] (by decide), rfl, rfl, rfl⟩,
    turn_inPhase _ _ (by decide),
    ⟨ctl (fun c => { c with delivered := done }) (inPhase .trig [.autoTimeout]),
      turn_inPhase .trig [.autoTimeout] (by decide), rfl, rfl⟩,
    turn_inPhase _ _ (by decide), turn_inPhase _ _ (by decide)⟩

/-- The invariant of a state, from its parts as decidable facts. -/
theorem inv_of_parts (s : State)
    (h₁ : s.par.valid = true ∧ s.uop = none ∧ s.c.halted = false ∧ s.err.fatal = 0)
    (h₂ : CfgInv s ∧ RingsInv s ∧ EngineInv s.trg ∧ EngineCfgInv s) (h₃ : ShadowInv s)
    (h₄ : PublishedInv s) (h₅ : CountInv s ∧ HandshakeInv s) (h₆ : s.br.reading = none)
    (h₇ : SequencerInv s) : Inv s :=
  ⟨h₁.1, h₁.2.1, h₁.2.2.1, h₁.2.2.2, h₂.1, h₂.2.1, h₂.2.2.1, h₂.2.2.2, h₃, h₄, h₅.1, h₅.2,
    fun r hr => by simp [h₆] at hr, h₇⟩

theorem sequencer_base (s : State) (h : s.c.todo = []) (h' : s.c.phase = .check)
    (h'' : s.c.rspHold = none) : SequencerInv s := by
  simp [SequencerInv, h, h', h'']

/-- A sound state whose published header names RegionB, with the reader in its window. -/
def window : State :=
  reader (fun r => { r with isOpen := true, inWindow := true })
    (publish (writer (fun b => { b with shadow := { b.shadow with activeRegion := 2 } }) base))

theorem inv_base : Inv base :=
  inv_of_parts _ (by decide +kernel)
    (by unfold CfgInv RingsInv RingInv EngineInv EngineCfgInv; decide +kernel)
    (by unfold ShadowInv HeaderFixed; decide +kernel)
    (by unfold PublishedInv HeaderFixed; decide +kernel)
    (by unfold CountInv HandshakeInv; decide +kernel) rfl (sequencer_base _ rfl rfl rfl)

theorem inv_window : Inv window :=
  inv_of_parts _ (by decide +kernel)
    (by unfold CfgInv RingsInv RingInv EngineInv EngineCfgInv; decide +kernel)
    (by unfold ShadowInv HeaderFixed; decide +kernel)
    (by unfold PublishedInv HeaderFixed; decide +kernel)
    (by unfold CountInv HandshakeInv; decide +kernel) rfl (sequencer_base _ rfl rfl rfl)

/-- A sound state about to deliver, the window ending at the first sample of the lane; with or without
a request to swap for. -/
def delivering (request : Bool) (s : State) : State :=
  { s with
    agenda := List.replicate 22 .ctl
    semReq := request.toNat
    br := { s.br with isOpen := true, inWindow := false, latched := request }
    c :=
      { s.c with
        phase := .trig
        lanes := [List.replicate 8 0, List.replicate 8 1]
        todo := deliverProg 7 true ++ [.goto .ret] } }

theorem sequencer_delivering (request : Bool) (s : State) (h : s.par = tiny)
    (h' : s.c.rspHold = none) : SequencerInv (delivering request s) := by
  have hl : laneLen tiny = 8 := by decide +kernel
  have hn : tiny.nch = 2 := rfl
  simp [SequencerInv, delivering, deliverProg, swapProg, MicroOk, h, h', hl, hn]

theorem inv_delivering (request : Bool) :
    Inv (delivering request base) ∧ Inv (delivering request window) := by
  cases request <;> constructor <;>
    exact inv_of_parts _ (by decide +kernel)
      (by unfold CfgInv RingsInv RingInv EngineInv EngineCfgInv; decide +kernel)
      (by unfold ShadowInv HeaderFixed; decide +kernel)
      (by unfold PublishedInv HeaderFixed; decide +kernel)
      (by unfold CountInv HandshakeInv; decide +kernel) rfl (sequencer_delivering _ _ rfl rfl)

theorem wit_DeliverPutsEveryWindow (request : Bool) :
    (Inv (delivering request base) ∧ (delivering request base).c.phase ≠ .exit ∧
      (delivering request base).c.todo = deliverProg 7 true ++ [.goto .ret] ∧
      (delivering request base).agenda =
        List.replicate
          (6 + (delivering request base).par.nch * ((delivering request base).cfg.W.toNat + 2)) .ctl ++
          [] ∧
      (delivering request base).bw.shadow.activeRegion = 1 ∧
      request = ((delivering request base).bw.reqPending ||
        decide (0 < (delivering request base).semReq))) ∧
    (Inv (delivering request window) ∧ (delivering request window).bw.shadow.activeRegion = 2) := by
  refine ⟨⟨(inv_delivering request).1, ?_⟩, (inv_delivering request).2, ?_⟩ <;> cases request <;>
    decide +kernel

theorem wit_ResetValues : State.reset = State.resetOf Config.params ∧ Config.params.valid = true :=
  ⟨rfl, by decide +kernel⟩

theorem wit_InvariantHoldsAtReset : Config.params.valid = true := by decide +kernel

theorem base_steps : ∃ t, step base = .next t := next_of_isNext (by decide +kernel)

theorem wit_InvariantIsKept : Inv base ∧ ∃ t, step base = .next t := ⟨inv_base, base_steps⟩

theorem wit_FatalIsUnreachable : Inv base ∧ Inv window := ⟨inv_base, inv_window⟩

theorem wit_ConfigurationBoundsAreKept : CfgInv base ∧ ∃ t, step base = .next t :=
  ⟨inv_base.2.2.2.2.1, base_steps⟩

theorem wit_CountdownsMatchTheState : EngineInv base.trg ∧ ∃ t, step base = .next t :=
  ⟨inv_base.2.2.2.2.2.2.1, base_steps⟩

theorem wit_ShadowFollowsConfiguration :
    base.bw.shadow.proc = procImage base.par base.cfg ∧ ∃ t, step base = .next t :=
  ⟨by decide +kernel, base_steps⟩

theorem wit_AcquisitionsAreAccounted : CountInv base ∧ ∃ t, step base = .next t :=
  ⟨by unfold CountInv; decide +kernel, base_steps⟩

theorem wit_HandshakeIsKept :
    HandshakeInv base ∧ base.uop = none ∧ releasesDue base = 0 ∧ ∃ t, step base = .next t :=
  ⟨by unfold HandshakeInv; decide +kernel, rfl, by decide +kernel, base_steps⟩

theorem wit_HeaderChangesOnlyByPublication : ∃ t, step base = .next t := base_steps

/-- A core at the publication of a swap. -/
def swapping : State :=
  ctl (fun c => { c with todo := [.swapPublish, .goto .check], phase := .swap })
    (writer (fun b => { b with filled := true, reqPending := true }) base)

theorem wit_RolesChangeOnlyWhenFilled :
    swapping.uop = none ∧ ∃ t, step swapping = .next t ∧
      t.bw.shadow.activeRegion ≠ swapping.bw.shadow.activeRegion := by
  have h : after (fun t => t.bw.shadow.activeRegion) (step swapping) = some 2 := by decide +kernel
  refine ⟨rfl, ?_⟩
  cases hs : step swapping with
  | next t =>
    rw [hs] at h
    have ht : t.bw.shadow.activeRegion = 2 := Option.some.inj h
    refine ⟨t, rfl, ?_⟩
    rw [ht]
    decide +kernel
  | fault r => simp [hs, after] at h
  | refused r => simp [hs, after] at h

theorem wit_ReadWindowIsStable :
    Inv window ∧ window.br.inWindow = true ∧
    regionBase window.par (otherRegion (headerOfBytes (publishedHeader window)).activeRegion) =
      some 72 ∧
    ∃ t, step window = .next t ∧ t.br.inWindow = true := by
  have h : after (fun t => t.br.inWindow) (step window) = some true := by decide +kernel
  refine ⟨inv_window, rfl, by decide +kernel, ?_⟩
  cases hs : step window with
  | next t =>
    rw [hs] at h
    exact ⟨t, rfl, Option.some.inj h⟩
  | fault r => simp [hs, after] at h
  | refused r => simp [hs, after] at h

theorem wit_AgentsTouchOnlyWhatTheyOwn :
    (∃ t, runTurn .ctl base = .next t) ∧ (∃ t, runTurn (.src [1]) base = .next t) ∧
    (∃ t, runTurn (.con .openBridge) base = .next t) ∧ (∃ t, runTurn (.hostCmd 0) base = .next t) ∧
    (∃ t, runTurn .conRead (readingAt 135 0 base) = .next t) ∧
    (∃ t, runTurn .ctl (inPhase .trig [.storeBytes 1 5 [9]]) = .next t) ∧
    regionBase base.par base.bw.shadow.activeRegion = some 72 ∧ windowAddr base 72 1 5 = 83 :=
  ⟨next_of_isNext (by decide +kernel), next_of_isNext (by decide +kernel),
    next_of_isNext (by decide +kernel), next_of_isNext (by decide +kernel),
    next_of_isNext (by decide +kernel), next_of_isNext (by decide +kernel), by decide +kernel,
    by decide +kernel⟩

/-- `CTL` in its drain, with one command word. -/
def draining (w : Word64) (s : State) : State :=
  { ctl (fun c => { c with phase := .cmd }) s with cmdq := [w] }

/-- `CTL` with one micro-step to do. -/
def micro (m : Micro) (s : State) : State := ctl (fun c => { c with phase := .trig, todo := [m] }) s

/-- A step from one value of a flag to another. -/
def flips (flag : State → Bool) (s : State) : Option (Bool × Bool) :=
  after (fun t => (flag s, flag t)) (step s)

/-- A core whose shadow header names no region. -/
def unselected : State :=
  writer (fun b => { b with shadow := { b.shadow with activeRegion := 0 } }) base

/-- Every change of a flag that the statement names happens somewhere: `false` to `true` and back. -/
theorem wit_FlagsAreSetOnlyByTheirOwners :
    [flips (·.c.runMode) (draining 0x0100000000000000 (ctl (fun c => { c with runMode := false }) base)),
      flips (·.c.forcePending) (draining 0x0300000000000000 base),
      flips (·.c.delivered) (micro .markDelivered base),
      flips (·.c.halted) (micro (.readWindow 100 0) base),
      flips (·.c.halted) (micro (.copyWindow 0 true) unselected),
      flips (·.c.halted) (micro (.storeBytes 0 0 [1]) unselected),
      flips (·.c.cancel) { base with agenda := [.hostCancel] },
      flips (·.bw.filled) (micro (.dataWritten true) base),
      flips (·.bw.reqPending) { micro .swapPoll base with semReq := 1 },
      flips (·.br.latched)
        { reader (fun r => { r with isOpen := true }) base with
          agenda := [.con (.requestAndWait 0)] }] =
      List.replicate 10 (some (false, true)) ∧
    [flips (·.c.runMode) (draining 0x0200000000000000 base),
      flips (·.c.forcePending) (micro .forceServed (ctl (fun c => { c with forcePending := true }) base)),
      flips (·.c.delivered)
        (ctl (fun c => { c with phase := .feed, delivered := true, blk := some (.replicate 16 0) })
          base),
      flips (·.bw.filled)
        (micro .swapPublish (writer (fun b => { b with filled := true, reqPending := true }) base)),
      flips (·.br.latched)
        { reader (fun r => { r with isOpen := true, latched := true, waiting := true }) base with
          semResp := 1, agenda := [.conWait] }] =
      List.replicate 5 (some (true, false)) := by decide +kernel

theorem wit_MemoriesStayCanonical : MemoriesCanonical base ∧ ∃ t, step base = .next t :=
  ⟨by unfold MemoriesCanonical; decide +kernel, base_steps⟩

/-- A core about to take a turn. -/
def taking (turn : Turn) : State := { base with agenda := [turn] }

theorem wit_AgentTurnsComplete :
    (taking .srcTake).par.valid = true ∧ (taking .srcTake).uop = none ∧
    ((List.replicate 16 (0 : Byte)).length = base.par.blockBytes ∧
      base.blkq.length < base.par.blkqDepth ∧ ¬([] : List Byte).length = base.par.blockBytes) ∧
    base.cmdq.length < base.par.cmdqDepth ∧ base.br.waiting = false ∧ base.semResp = 0 ∧
    0 < ({ base with semResp := 1 } : State).semResp ∧
    (reader (fun r => { r with waiting := true }) (taking .conWait)).br.waiting = true ∧
    base.br.reading = none ∧ (readingAt 135 0 (taking .conRead)).br.reading ≠ none := by
  decide +kernel

/-- R98: `SRC` waits on a full queue, and enqueues into the last place. -/
theorem test_src_waits_on_a_full_queue :
    after (fun t => t.blkq.length)
      (step { taking (.src (.replicate 16 0)) with blkq := [[], [], [], []] }) = some 4 ∧
    after (fun t => t.blkq.length)
      (step { taking (.src (.replicate 16 0)) with blkq := [[], [], []] }) = some 4 := by
  decide +kernel

end Sys2Proof.Tests
end

section
/-!
PROOFS. The family of 00_scope.md: what lies outside the domain of the model (O9), the turns of the
agents other than `CTL` (O60), and the state after reset (O46).
-/

namespace Sys2Proof.Machine

/-! ### Situations outside the domain -/

/-- Outside the parameter domain no step has a meaning (93_implementation_defined.md X1). -/
theorem step_of_not_valid {s : State} (h : s.par.valid = false) :
    step s = .refused .paramsOutOfDomain := by
  simp [step, nextStep, h]

/-- A reader that opens again with a request outstanding is refused (45_bridge.md R310). -/
theorem exec_rdrOpen_of_outstanding {s : State} (ho : s.br.isOpen = true) (hl : s.br.latched = true) :
    exec .rdrOpen s = .refused .reopenOutstanding :=
  if_pos ⟨ho, hl⟩

/-- No ring is configured with capacity 0 (41_ring_buffer.md R151). -/
theorem exec_rbConfigure_of_cap_zero {s : State} (h : s.port.cap = 0) :
    exec .rbConfigure s = .refused .capacityZero :=
  if_pos h

/-- No sample is written into a ring of capacity 0 (00_scope.md R11: no remainder modulo 0). -/
theorem exec_rbWrite_of_cap_zero {s : State} (hc : s.rb[s.port.c].cap = 0) (hl : s.port.lane ≠ []) :
    exec .rbWrite s = .refused .capacityZero := by
  change (writeRing s.port.c s.port.lane s).outcome _ = _
  rcases writeRing_cases s.port.c s.port.lane s with ⟨_, _, hw⟩ | ⟨hn, _⟩
  · rw [hw]
    rfl
  · exact absurd ⟨hc, hl⟩ hn

/-- Settles O9, one clause per named refusal. -/
theorem outsideTheDomainIsRefused : Obligations.OutsideTheDomainIsRefused :=
  ⟨fun _ => step_of_not_valid, fun _ => exec_rdrOpen_of_outstanding,
    fun _ => exec_rbConfigure_of_cap_zero, fun _ => exec_rbWrite_of_cap_zero⟩

/-! ### The turns of `SRC`, `HOST` and `CON` -/

/-- A step of the assembled core with a turn placed is that turn (log 6). -/
theorem step_placed {s : State} {turn : Turn} {rest : List Turn} (hv : s.par.valid = true)
    (hu : s.uop = none) (ha : s.agenda = turn :: rest) :
    step s = runTurn turn { s with agenda := rest } := by
  obtain ⟨hn, ht⟩ := nextTurn_cons ha
  rw [step_turn hv hu, hn, ht]

/-- A reader inside no other operation runs the one it issues. -/
theorem conIssue_of_idle (op : ReaderOp) {s : State} (hw : s.br.waiting = false)
    (hr : s.br.reading = none) : conIssue op s = exec (readerInstr op) (readerOperand op s) := by
  simp [conIssue, readerBusy, hw, hr]

/-- A reader that waits or reads a region issues nothing (20_memory.md R90, R93). -/
theorem conIssue_of_busy (op : ReaderOp) {s : State}
    (h : s.br.waiting = true ∨ s.br.reading ≠ none) : conIssue op s = .next s := by
  have hb : readerBusy s.br = true := by
    rcases h with h | h
    · simp [readerBusy, h]
    · simp [readerBusy, Option.isSome_iff_ne_none.2 h]
  exact if_pos hb

/-- With no region read in progress there is no byte step to take. -/
theorem conRead_of_idle {s : State} (h : s.br.reading = none) : conRead s = .next s := by
  simp [conRead, h]

/-- A region read in progress goes on with its next byte. -/
theorem conRead_of_reading {s : State} (h : s.br.reading ≠ none) :
    conRead s = exec .rdrReadRegion s :=
  if_pos (Option.isSome_iff_ne_none.2 h)

/-- A reader that does not wait has no wait step to take. -/
theorem conWait_of_idle {s : State} (h : s.br.waiting = false) : conWait s = s := by
  simp [conWait, h]

/-- A waiting reader that finds a response is satisfied by it (45_bridge.md R300). -/
theorem conWait_of_response {s : State} (hw : s.br.waiting = true) (h : 0 < s.semResp) :
    conWait s =
      { s with
        semResp := s.semResp - 1
        br := { s.br with latched := false, waiting := false, inWindow := true }
        port := { s.port with satisfied := true } } := by
  simp [conWait, hw, waitStep, h]

/-- A waiting reader that finds no response times out (45_bridge.md R302). -/
theorem conWait_of_no_response {s : State} (hw : s.br.waiting = true) (h : s.semResp = 0) :
    conWait s =
      { s with
        br := { s.br with waiting := false }
        port := { s.port with satisfied := false } } := by
  simp [conWait, hw, waitStep, h]

/-- Settles O60: each placed turn is one step of its agent, split by what that agent is doing. -/
theorem agentTurnsComplete : Obligations.AgentTurnsComplete := by
  intro s s' rest hv hu hs'
  subst hs'
  have turn {t : Turn} (ha : s.agenda = t :: rest) := step_placed hv hu ha
  refine ⟨⟨fun block ha => ?src, fun ha => ?srcTake⟩,
    ⟨fun w ha => ?hostCmd, fun ha => ?hostTake, fun ha => ?hostCancel⟩,
    fun op ha => ⟨fun hb => ?busy, fun hw hr => ?issue⟩,
    fun ha => ⟨fun hr => ?noRead, fun hr => ?read⟩,
    fun ha => ⟨fun hw => ?noWait, fun hw hp => ?satisfied, fun hw hz => ?timedOut⟩⟩
  case src => exact turn ha
  case srcTake => rw [turn ha, List.drop_one]; rfl
  case hostCmd => exact turn ha
  case hostTake => rw [turn ha, List.drop_one]; rfl
  case hostCancel => exact turn ha
  case busy => exact (turn ha).trans (conIssue_of_busy op hb)
  case issue =>
    have issued := (turn ha).trans (conIssue_of_idle op hw hr)
    refine ⟨?_, fun timeout => ?_, ?_, ?_⟩ <;> rintro rfl <;> exact issued
  case noRead => exact (turn ha).trans (conRead_of_idle hr)
  case read => exact (turn ha).trans (conRead_of_reading hr)
  case noWait => exact (turn ha).trans (congrArg Host.Outcome.next (conWait_of_idle hw))
  case satisfied =>
    exact (turn ha).trans
      (congrArg Host.Outcome.next (conWait_of_response (s := { s with agenda := rest }) hw hp))
  case timedOut =>
    exact (turn ha).trans
      (congrArg Host.Outcome.next (conWait_of_no_response (s := { s with agenda := rest }) hw hz))

/-! ### Little-endian fields and the header image -/

@[simp] theorem leBytes_length (n v : Nat) : (leBytes n v).length = n := by simp [leBytes]

/-- The first of the bytes of a value is its remainder modulo 256; the others are those of its quotient. -/
theorem leBytes_succ (n v : Nat) :
    leBytes (n + 1) v = BitVec.ofNat 8 v :: leBytes n (v / 256) := by
  simp [leBytes, List.range_succ_eq_map, Nat.pow_succ', Nat.div_div_eq_div_mul]

/-- Bytes least significant first hold a value modulo `256 ^ n` (20_memory.md R75). -/
theorem leNat_leBytes (n v : Nat) : leNat (leBytes n v) = v % 256 ^ n := by
  induction n generalizing v with
  | zero => simp [leBytes, leNat, Nat.mod_one]
  | succ n ih => rw [leBytes_succ, leNat, ih, Nat.pow_succ', Nat.mod_mul, BitVec.toNat_ofNat]

/-- A word of at most `8 * n` bits comes back from its `n` bytes. -/
theorem ofNat_leNat_leBytes {w n : Nat} (x : BitVec w) (h : w ≤ 8 * n) :
    BitVec.ofNat w (leNat (leBytes n x.toNat)) = x := by
  have hx : x.toNat < 256 ^ n := by
    calc x.toNat < 2 ^ w := x.isLt
      _ ≤ 2 ^ (8 * n) := Nat.pow_le_pow_right (by omega) h
      _ = 256 ^ n := by rw [Nat.pow_mul]
  rw [leNat_leBytes, Nat.mod_eq_of_lt hx, BitVec.ofNat_toNat, BitVec.setWidth_eq]

/-- A field at the front of an image. -/
theorem headerField_append_zero {n : Nat} {field : List Byte} (h : field.length = n)
    (rest : List Byte) : headerField (field ++ rest) 0 n = leNat field := by
  simp [headerField, ← h]

/-- A field behind another: its offset counts from there. -/
theorem headerField_append_add {m : Nat} {front : List Byte} (h : front.length = m)
    (rest : List Byte) {offset : Nat} (ho : m ≤ offset) (n : Nat) :
    headerField (front ++ rest) offset n = headerField rest (offset - m) n := by
  subst h
  rw [headerField, List.drop_append, List.drop_eq_nil_of_le ho, List.nil_append, headerField]

/-- A field that is the rest of its image. -/
theorem headerField_whole {n : Nat} {field : List Byte} (h : field.length = n) :
    headerField field 0 n = leNat field := by
  simp [headerField, ← h]

theorem headerField_cons_zero (b : Byte) (rest : List Byte) :
    headerField (b :: rest) 0 1 = b.toNat := by
  simp [headerField, leNat]

theorem headerField_cons_succ (b : Byte) (rest : List Byte) (offset n : Nat) :
    headerField (b :: rest) (offset + 1) n = headerField rest offset n := rfl

theorem headerBytes_length (h : Header) : (headerBytes h).length = 72 := by
  simp [headerBytes, hwBytes, procBytes]

theorem vector_of_four_entries {α : Type} (v : Vector α 4) : #v[v[0], v[1], v[2], v[3]] = v := by
  ext i hi
  interval_cases i <;> rfl

/-- The fields read back from an image are those it was made of (10_state.md R45 to R47). -/
theorem headerOfBytes_headerBytes (h : Header) : headerOfBytes (headerBytes h) = h := by
  obtain ⟨version, capacity, maxCount, maxLength, dataWidth, region, triggered, ⟨mode, scale⟩,
    ⟨count, length, channel, trigMode, edge, level, hyst, pos, holdoff⟩, reserved, total, dropped⟩ := h
  have hscale : #[scale[0], scale[1], scale[2], scale[3]] = scale.toArray :=
    congrArg Vector.toArray (vector_of_four_entries scale)
  simp [headerOfBytes, headerBytes, hwBytes, procBytes, headerField_append_zero,
    headerField_append_add, headerField_whole, headerField_cons_zero, headerField_cons_succ,
    ofNat_leNat_leBytes, hscale]

/-- The header a segment publishes is the one whose image its first 72 bytes are. -/
theorem publishedHeader_eq {s : State} {h : Header}
    (hseg : ∀ a < hdrBytes, s.seg.read? a = (headerBytes h)[a]?) :
    publishedHeader s = headerBytes h := by
  refine List.ext_getElem? fun a => ?_
  by_cases ha : a < hdrBytes
  · have hlt : a < (headerBytes h).length := by rwa [headerBytes_length]
    simp [publishedHeader, Memory.readBytes, ha, hseg a ha, hlt]
  · have hge : (headerBytes h).length ≤ a := by
      rw [headerBytes_length]
      exact Nat.le_of_not_lt ha
    simp [publishedHeader, ha, hge]

/-- A header stored whole reads back byte by byte (45_bridge.md R288). -/
theorem read_writeHeader (m : Memory) (h : Header) {a : Nat} (ha : a < hdrBytes) :
    (m.writeBytes 0 (headerBytes h)).read? a = (headerBytes h)[a]? := by
  have hin : 0 ≤ a ∧ a < 0 + (headerBytes h).length := by
    rw [headerBytes_length, Nat.zero_add]
    exact ⟨Nat.zero_le a, ha⟩
  rw [Memory.read_writeBytes, if_pos hin, Nat.sub_zero]

/-! ### The parameter domain, the rings and the engine -/

/-- The bounds 00_scope.md R7 to R9 put on the lanes, the windows and `CFG0`, one named field each; log 3 for
the lane length. -/
structure ParamsInDomain (p : Params) : Prop where
  nch : p.nch = 1 ∨ p.nch = 2 ∨ p.nch = 4
  lane : laneLen p < 2 ^ 32
  maxw : p.maxw < 2 ^ 32
  minw_le : p.minw ≤ p.cfg0.W
  le_maxw : p.cfg0.W ≤ p.maxw
  pos : p.cfg0.pos < p.cfg0.W
  level : -128 ≤ p.cfg0.level ∧ p.cfg0.level ≤ 127
  hyst : p.cfg0.hyst ≤ 127
  holdoff : p.cfg0.addHoldoff < 2 ^ 32
  src : p.cfg0.src < p.nch

theorem paramsInDomain_of_valid {p : Params} (h : p.valid = true) : ParamsInDomain p := by
  simp only [Params.valid, Cfg0.valid, Bool.and_eq_true, Bool.or_eq_true, decide_eq_true_eq,
    beq_iff_eq] at h
  obtain ⟨⟨⟨⟨⟨⟨⟨hnch, ⟨_, hlane⟩⟩, ⟨_, hmaxw⟩⟩, _⟩, _⟩, _⟩, _⟩,
    ⟨⟨⟨⟨⟨⟨hmin, hmax⟩, hpos⟩, hlevel⟩, hhyst⟩, hadd⟩, hsrc⟩⟩ := h
  exact ⟨or_assoc.1 hnch, hlane, hmaxw, hmin, hmax, hpos, hlevel, hhyst, hadd, hsrc⟩

/-- A ring just configured is sound, whatever its capacity (41_ring_buffer.md R151). -/
theorem ringInv_ringConfigured {cap : Nat} (h₀ : 0 < cap) (h : cap < 2 ^ 33) :
    RingInv cap (ringConfigured (.ofNat 33 cap)) := by
  have hcap : (BitVec.ofNat 33 cap).toNat = cap := by
    rw [BitVec.toNat_ofNat, Nat.mod_eq_of_lt h]
  simp [RingInv, ringConfigured, hcap, h₀, Memory.wf]

/-- Ten bits hold a level moved by a hysteresis (10_state.md R26). -/
theorem toInt_ofInt_ten {x : Int} (h₁ : -512 ≤ x) (h₂ : x < 512) : (BitVec.ofInt 10 x).toInt = x := by
  rw [BitVec.toInt_ofInt]
  exact Int.bmod_eq_of_le (by simpa using h₁) (by simpa using h₂)

/-- The two arm levels lie the hysteresis below and above the level (42_trigger_engine.md R172). -/
theorem trgVertical_armLevels (t : Trg) (level : Byte) {hyst : Byte} (h : hyst.toNat ≤ 127) :
    (trgVertical t level hyst).lo.toInt = (nudge level hyst).toInt - hyst.toNat ∧
      (trgVertical t level hyst).hi.toInt = (nudge level hyst).toInt + hyst.toNat := by
  have hlow : -128 ≤ (nudge level hyst).toInt := by simpa using BitVec.le_toInt (nudge level hyst)
  have hhigh : (nudge level hyst).toInt < 128 := by
    simpa using BitVec.toInt_lt (x := nudge level hyst)
  exact ⟨toInt_ofInt_ten (by omega) (by omega), toInt_ofInt_ten (by omega) (by omega)⟩

/-- A window splits into its capture and its position (42_trigger_engine.md R174). -/
theorem trgHorizontal_samples (t : Trg) {W pos : BitVec 32} (add : BitVec 32)
    (h : pos.toNat < W.toNat) :
    (trgHorizontal t W pos add).captureSamples.toNat = W.toNat - pos.toNat ∧
      (trgHorizontal t W pos add).holdoffSamples.toNat = pos.toNat + add.toNat := by
  have hcapture : (W - pos).toNat = W.toNat - pos.toNat := BitVec.toNat_sub_of_le (by bv_omega)
  have hadd := add.isLt
  have hW := W.isLt
  refine ⟨hcapture, ?_⟩
  change (BitVec.ofNat 33 (W.toNat - (W - pos).toNat + add.toNat)).toNat = _
  rw [hcapture, BitVec.toNat_ofNat, Nat.mod_eq_of_lt] <;> omega

/-- An engine at rest is sound once its capture has a length (10_state.md R28). -/
theorem engineInv_of_unarmed {t : Trg} (hs : t.state = .unarmed) (hc : t.captureRemaining = 0)
    (hh : t.holdoffRemaining = 0) (hl : t.captureSamples ≠ 0) : EngineInv t :=
  ⟨by simp [hs, hc], by simp [hs, hh], by simp [hc], by simp [hh], hl⟩

/-! ### The state after reset -/

section Reset

variable {p : Params}

/-- The configuration registers hold the numbers of `CFG0` (10_state.md R21, R60). -/
theorem cfgOfCfg0_toNat (hd : ParamsInDomain p) :
    (cfgOfCfg0 p.cfg0).W.toNat = p.cfg0.W ∧ (cfgOfCfg0 p.cfg0).pos.toNat = p.cfg0.pos ∧
      (cfgOfCfg0 p.cfg0).hyst.toNat = p.cfg0.hyst ∧ (cfgOfCfg0 p.cfg0).src.toNat = p.cfg0.src := by
  obtain ⟨hnch, _, hmaxw, _, hmax, hpos, _, hhyst, _, hsrc⟩ := hd
  simp only [cfgOfCfg0, BitVec.toNat_ofNat]
  refine ⟨?_, ?_, ?_, ?_⟩ <;> apply Nat.mod_eq_of_lt <;> omega

theorem resetOf_cfgInv (hd : ParamsInDomain p) : CfgInv (State.resetOf p) := by
  obtain ⟨hW, hpos, hhyst, hsrc⟩ := cfgOfCfg0_toNat hd
  unfold CfgInv
  simp only [State.resetOf, hW, hpos, hhyst, hsrc]
  exact ⟨hd.minw_le, hd.le_maxw, hd.pos, hd.hyst, hd.src⟩

theorem resetOf_ringsInv (hd : ParamsInDomain p) : RingsInv (State.resetOf p) := by
  intro c _
  obtain ⟨hW, _⟩ := cfgOfCfg0_toNat hd
  have hring : (State.resetOf p).rb[c] = ringConfigured (resetCap p) := by simp [State.resetOf]
  have hcap : (State.resetOf p).cfg.W.toNat + laneLen (State.resetOf p).par =
      p.cfg0.W + laneLen p := congrArg (· + laneLen p) hW
  obtain ⟨_, hlane, hmaxw, _, hmax, hpos, _⟩ := hd
  rw [hring, hcap]
  exact ringInv_ringConfigured (by omega) (by omega)

/-- Reset leaves the window and position of `CFG0` in the engine (42_trigger_engine.md R174). -/
theorem resetTrg_samples (hd : ParamsInDomain p) :
    (resetTrg p).captureSamples.toNat =
        (cfgOfCfg0 p.cfg0).W.toNat - (cfgOfCfg0 p.cfg0).pos.toNat ∧
      (resetTrg p).holdoffSamples.toNat =
        (cfgOfCfg0 p.cfg0).pos.toNat + (cfgOfCfg0 p.cfg0).addHoldoff.toNat := by
  obtain ⟨hW, hpos, _⟩ := cfgOfCfg0_toNat hd
  have hlt : (cfgOfCfg0 p.cfg0).pos.toNat < (cfgOfCfg0 p.cfg0).W.toNat := by
    rw [hW, hpos]
    exact hd.pos
  exact trgHorizontal_samples
    (trgVertical blankTrg (cfgOfCfg0 p.cfg0).level (cfgOfCfg0 p.cfg0).hyst) _ hlt

theorem resetOf_engineInv (hd : ParamsInDomain p) : EngineInv (State.resetOf p).trg := by
  obtain ⟨hW, hpos, _⟩ := cfgOfCfg0_toNat hd
  obtain ⟨hcapture, _⟩ := resetTrg_samples hd
  refine engineInv_of_unarmed rfl rfl rfl fun (hzero : (resetTrg p).captureSamples = 0) => ?_
  have hlt := hd.pos
  have hlength : 0 = p.cfg0.W - p.cfg0.pos := by rwa [hzero, hW, hpos] at hcapture
  omega

theorem resetOf_engineCfgInv (hd : ParamsInDomain p) : EngineCfgInv (State.resetOf p) := by
  obtain ⟨_, _, hhyst, _⟩ := cfgOfCfg0_toNat hd
  obtain ⟨hcapture, hholdoff⟩ := resetTrg_samples hd
  obtain ⟨hlo, hhi⟩ :=
    trgVertical_armLevels blankTrg (cfgOfCfg0 p.cfg0).level (hhyst.trans_le hd.hyst)
  have enables (b : Bool) : (if p.edgeGating then b else true) = (!p.edgeGating || b) := by
    cases p.edgeGating <;> rfl
  exact ⟨rfl, rfl, rfl, rfl, rfl, hlo, hhi, hcapture, hholdoff, enables _, enables _⟩

theorem initHeader_fixed (p : Params) (g : Cfg) : HeaderFixed p (initHeader p g) :=
  ⟨rfl, rfl, rfl, rfl, rfl, rfl, rfl, rfl⟩

theorem resetOf_shadowInv (p : Params) : ShadowInv (State.resetOf p) :=
  ⟨initHeader_fixed p _, rfl, .inl rfl, .inl rfl⟩

theorem resetOf_seg (p : Params) :
    (State.resetOf p).seg =
      Memory.writeBytes [] 0 (headerBytes (initHeader p (cfgOfCfg0 p.cfg0))) := by
  simp only [State.resetOf]

/-- Reset publishes the header `BRG.INIT` writes (70_reset_and_hazards.md R360). -/
theorem resetOf_read_header (p : Params) {a : Nat} (ha : a < hdrBytes) :
    (State.resetOf p).seg.read? a = (headerBytes (initHeader p (cfgOfCfg0 p.cfg0)))[a]? := by
  rw [resetOf_seg, read_writeHeader [] _ ha]

theorem resetOf_publishedHeader (p : Params) :
    headerOfBytes (publishedHeader (State.resetOf p)) = initHeader p (cfgOfCfg0 p.cfg0) := by
  rw [publishedHeader_eq fun _ => resetOf_read_header p, headerOfBytes_headerBytes]

/-- Reset stores nothing beyond the header. -/
theorem resetOf_mem_seg {p : Params} {cell : Host.Cell} (h : cell ∈ (State.resetOf p).seg) :
    cell.1 < hdrBytes := by
  rw [resetOf_seg] at h
  rcases Memory.mem_writeBytes h with ⟨_, hlt⟩ | hnil
  · rwa [headerBytes_length, Nat.zero_add] at hlt
  · cases hnil

theorem resetOf_publishedInv (hd : ParamsInDomain p) : PublishedInv (State.resetOf p) := by
  have hW := (cfgOfCfg0_toNat hd).1
  unfold PublishedInv
  rw [resetOf_publishedHeader]
  refine ⟨(resetOf_memories_wf p).1,
    fun cell hcell => (resetOf_mem_seg hcell).trans_le (Nat.le_add_right _ _),
    fun a ha => ?written, initHeader_fixed p _, rfl, rfl, hW.trans_le hd.le_maxw, rfl⟩
  case written =>
    rw [resetOf_read_header p ha]
    simpa [headerBytes_length, hdrBytes] using ha

theorem resetOf_handshakeInv (p : Params) : HandshakeInv (State.resetOf p) := by
  simp [HandshakeInv, releasesDue, State.resetOf]

theorem resetOf_sequencerInv (p : Params) : SequencerInv (State.resetOf p) := by
  simp [SequencerInv, State.resetOf]

end Reset

/-- Settles O46: each part of the invariant at reset, from the bounds on `CFG0`. -/
theorem invariantHoldsAtReset : Obligations.InvariantHoldsAtReset := by
  intro p hv
  have hd := paramsInDomain_of_valid hv
  have reading : ReaderInv (State.resetOf p) := fun _ hr => by cases hr
  exact ⟨hv, rfl, rfl, rfl, resetOf_cfgInv hd, resetOf_ringsInv hd, resetOf_engineInv hd,
    resetOf_engineCfgInv hd, resetOf_shadowInv p, resetOf_publishedInv hd, rfl,
    resetOf_handshakeInv p, reading, resetOf_sequencerInv p⟩

end Sys2Proof.Machine
end

section
/-!
PROOFS. What one step of the machine can do to its data: the parameters, `CFG`, the rings, the engine, the
bridge writer and the segment. Every step is one named update of these up to changes of the other registers;
the invariants of 10_state.md that speak of data alone are proved by cases on the update.
-/

namespace Sys2Proof.Machine

/-! ### The updates -/

/-- The two states have the same parameters, `CFG`, rings, engine, bridge writer and segment. Where each of
these is the same by definition, `{}` is the proof. -/
structure SameData (s t : State) : Prop where
  par : t.par = s.par := by rfl
  cfg : t.cfg = s.cfg := by rfl
  rb : t.rb = s.rb := by rfl
  trg : t.trg = s.trg := by rfl
  bw : t.bw = s.bw := by rfl
  seg : t.seg = s.seg := by rfl

theorem SameData.refl (s : State) : SameData s s := {}

theorem SameData.trans {s t u : State} (h : SameData s t) (h' : SameData t u) : SameData s u :=
  ⟨h'.par.trans h.par, h'.cfg.trans h.cfg, h'.rb.trans h.rb, h'.trg.trans h.trg, h'.bw.trans h.bw,
    h'.seg.trans h.seg⟩

/-- The writes of `SET_MODE` to `CFG` and its image (43_controller_commands.md R217). -/
def modeSet (mode : TrigMode) (s : State) : State :=
  shadowProc (fun r => { r with triggerMode := .ofNat 8 (modeCode mode) })
    { s with cfg := { s.cfg with mode := mode } }

/-- The writes of `SET_DEPTH` to `CFG` and its image (R216). -/
def widthSet (samples : Nat) (s : State) : State :=
  shadowProc (fun r => { r with channelLength := .ofNat 32 samples })
    { s with cfg := { s.cfg with W := .ofNat 32 samples } }

/-- The writes of `SET_DELAY` to `CFG` and its image (R219). -/
def positionSet (pos : BitVec 32) (s : State) : State :=
  shadowProc (fun r => { r with triggerPosition := pos }) { s with cfg := { s.cfg with pos := pos } }

/-- The writes of `SET_SRC` to `CFG` and its image (R220). -/
def sourceSet (channel : Nat) (s : State) : State :=
  shadowProc (fun r => { r with triggerChannel := .ofNat 8 channel })
    { s with cfg := { s.cfg with src := .ofNat 2 channel } }

/-- The writes of `SET_LEVEL` to `CFG` and its image (R221). -/
def levelSet (level : Byte) (s : State) : State :=
  shadowProc (fun r => { r with triggerLevel := level }) { s with cfg := { s.cfg with level := level } }

/-- The writes of `SET_TYPE` to `CFG` and its image (R222). -/
def typeSet (edge : Edge) (s : State) : State :=
  shadowProc (fun r => { r with triggerType := .ofNat 8 (edgeCode edge) })
    { s with cfg := { s.cfg with edge := edge } }

/-- All of an accepted `SET_DEPTH` but the stream count (R216). -/
def depthSet (samples : Nat) (s : State) : State :=
  setHorizontal (.ofNat 32 samples) s.cfg.pos s.cfg.addHoldoff
    (configureRings (.ofNat 33 (samples + laneLen s.par)) (channels s.par) (widthSet samples s))

/-- The updates of data that a turn of the assembled core makes. -/
inductive CoreUpdate (s : State) : State → Prop
  | keep : CoreUpdate s s
  | restart : CoreUpdate s (resetEngine s)
  | mode (mode : TrigMode) : CoreUpdate s (modeSet mode s)
  | depth (samples : Nat) (hmin : s.par.minw ≤ samples) (hmax : samples ≤ s.par.maxw)
      (hpos : s.cfg.pos.toNat < samples) :
      CoreUpdate s (depthSet samples s)
  | delay (pos : Nat) (hpos : pos < s.cfg.W.toNat) :
      CoreUpdate s
        (setHorizontal s.cfg.W (.ofNat 32 pos) s.cfg.addHoldoff (positionSet (.ofNat 32 pos) s))
  | source (channel : Nat) (h : channel < s.par.nch) :
      CoreUpdate s (resetEngine (sourceSet channel s))
  | level (level : Byte) : CoreUpdate s (setVertical level s.cfg.hyst (levelSet level s))
  | type (edge : Edge) : CoreUpdate s (setEdge edge (typeSet edge s))
  | feed (t : State) (h : feedRings (channels s.par) s = .ok () t) : CoreUpdate s t
  | scan (lane : List Byte) : CoreUpdate s (processLane lane s)
  | store (a : Nat) (b : Byte) (hlow : hdrBytes ≤ a) (hhigh : a < segBytes s.par) :
      CoreUpdate s { s with seg := s.seg.write a b }
  | written (trig : Bool) : CoreUpdate s (dataWritten trig s)
  | poll : CoreUpdate s (swapPoll s)
  | swap (due : swapDue s.bw = true) : CoreUpdate s (swapPublish s)

/-- The further updates of an operation presented for direct issue (30_encoding.md R113, log 12). -/
inductive DirectUpdate (s : State) : State → Prop
  | core {t : State} (h : CoreUpdate s t) : DirectUpdate s t
  | configureRing (cap : BitVec 33) (c : Fin 4) : DirectUpdate s (configureRing cap c s)
  | writeRing (c : Fin 4) (lane : List Byte) :
      DirectUpdate s (withRing c (ringWritten s.rb[c] lane) s)
  | vertical (level hyst : Byte) : DirectUpdate s (setVertical level hyst s)
  | horizontal (W pos add : BitVec 32) : DirectUpdate s (setHorizontal W pos add s)
  | edge (edge : Edge) : DirectUpdate s (setEdge edge s)
  | init : DirectUpdate s (initBridge s)
  | pollAndSwap (due : swapDue (swapPoll s).bw = true) : DirectUpdate s (swapPublish (swapPoll s))

/-- `t` comes from `s` by an update, but for registers that are no data. -/
def ByUpdate (U : State → State → Prop) (s t : State) : Prop :=
  ∃ s' t', SameData s s' ∧ U s' t' ∧ SameData t' t

section ByUpdate

variable {U V : State → State → Prop} {s s' t t' : State}

theorem ByUpdate.of_update (h : U s t) (ht : SameData t t') : ByUpdate U s t' :=
  ⟨s, t, .refl s, h, ht⟩

theorem ByUpdate.after_same (hs : SameData s s') (h : ByUpdate U s' t) : ByUpdate U s t := by
  obtain ⟨u, v, hu, huv, hv⟩ := h
  exact ⟨u, v, hs.trans hu, huv, hv⟩

theorem ByUpdate.mono (hUV : ∀ a b, U a b → V a b) (h : ByUpdate U s t) : ByUpdate V s t := by
  obtain ⟨u, v, hu, huv, hv⟩ := h
  exact ⟨u, v, hu, hUV u v huv, hv⟩

/-- Nothing changed but registers that are no data. -/
theorem ByUpdate.of_same (h : SameData s t) : ByUpdate CoreUpdate s t :=
  ⟨s, s, .refl s, .keep, h⟩

/-- A predicate of the data that every update keeps is kept. -/
theorem ByUpdate.keeps {I : State → Prop} (h : ByUpdate U s t)
    (same : ∀ a b, SameData a b → I a → I b) (update : ∀ a b, U a b → I a → I b) (hs : I s) : I t := by
  obtain ⟨u, v, hu, huv, hv⟩ := h
  exact same v t hv (update u v huv (same s u hu hs))

end ByUpdate

/-! ### The operations -/

/-- A word of `CMDQ` decodes to a host command, never to a unit operation (30_encoding.md R116). -/
theorem isCommand_of_decodeCmd {w : Word64} {i : Instr} (h : decodeCmd w = some i) :
    isCommand i = true := by
  obtain ⟨row, hrow, rfl⟩ := Option.map_eq_some_iff.1 h
  have hmem := List.mem_of_find?_eq_some hrow
  simp only [cmdRows, List.mem_cons, List.not_mem_nil, or_false] at hmem
  rcases hmem with rfl | rfl | rfl | rfl | rfl | rfl | rfl | rfl | rfl | rfl | rfl <;> rfl

/-- Feeding the rings raises no Fatal: it succeeds, or a ring of capacity 0 is refused (log 21). -/
theorem feedRings_ok_or_refused (cs : List (Fin 4)) (s : State) :
    (∃ t, feedRings cs s = .ok () t) ∨ feedRings cs s = .refused .capacityZero := by
  induction cs generalizing s with
  | nil => exact .inl ⟨s, rfl⟩
  | cons c cs ih =>
    rcases writeRing_cases c (laneOf s.c.lanes c.val) s with ⟨_, _, hw⟩ | ⟨_, hw⟩
    · exact .inr (by simp only [feedRings, hw])
    · simpa only [feedRings, hw] using ih _

/-! ### What each command can do (43_controller_commands.md R213 to R223) -/

theorem execRun_cases (s : State) :
    (s.c.runMode = true ∧ execRun s = .next s) ∨
    (s.c.runMode = false ∧
      execRun s =
        .next
          { resetEngine s with
            c := { s.c with runMode := true, autoCount := 0, streamCount := 0 } }) := by
  cases h : s.c.runMode
  · exact .inr ⟨rfl, by rw [execRun, h]; rfl⟩
  · exact .inl ⟨rfl, by rw [execRun, h]; rfl⟩

section ConfigureRings

variable (cap : BitVec 33) (cs : List (Fin 4)) (s : State)

theorem configureRings_eq :
    configureRings cap cs s = { s with rb := (configureRings cap cs s).rb } := by
  obtain ⟨rb, h, -⟩ := configureRings_frame cap cs s
  rw [h]

@[simp] theorem configureRings_par : (configureRings cap cs s).par = s.par := by
  rw [configureRings_eq]
@[simp] theorem configureRings_cfg : (configureRings cap cs s).cfg = s.cfg := by
  rw [configureRings_eq]
@[simp] theorem configureRings_trg : (configureRings cap cs s).trg = s.trg := by
  rw [configureRings_eq]
@[simp] theorem configureRings_c : (configureRings cap cs s).c = s.c := by
  rw [configureRings_eq]
@[simp] theorem configureRings_err : (configureRings cap cs s).err = s.err := by
  rw [configureRings_eq]
@[simp] theorem configureRings_bw : (configureRings cap cs s).bw = s.bw := by
  rw [configureRings_eq]
@[simp] theorem configureRings_seg : (configureRings cap cs s).seg = s.seg := by
  rw [configureRings_eq]
@[simp] theorem configureRings_semReq : (configureRings cap cs s).semReq = s.semReq := by
  rw [configureRings_eq]
@[simp] theorem configureRings_semResp : (configureRings cap cs s).semResp = s.semResp := by
  rw [configureRings_eq]
@[simp] theorem configureRings_br : (configureRings cap cs s).br = s.br := by
  rw [configureRings_eq]
@[simp] theorem configureRings_uop : (configureRings cap cs s).uop = s.uop := by
  rw [configureRings_eq]

end ConfigureRings

theorem execSetDepth_cases (samples : Nat) (s : State) :
    (∃ code, execSetDepth samples s =
      .next (raiseConfigError code (commandWord (.setDepth samples)) s)) ∨
    (s.par.minw ≤ samples ∧ samples ≤ s.par.maxw ∧ s.cfg.pos.toNat < samples ∧
      execSetDepth samples s =
        .next { depthSet samples s with c := { (depthSet samples s).c with streamCount := 0 } }) := by
  by_cases hrange : samples < s.par.minw ∨ s.par.maxw < samples
  · exact .inl ⟨_, if_pos hrange⟩
  · by_cases hpos : samples ≤ s.cfg.pos.toNat
    · exact .inl ⟨_, by rw [execSetDepth, if_neg hrange, if_pos hpos]⟩
    · obtain ⟨hmin, hmax⟩ := not_or.1 hrange
      refine .inr ⟨Nat.le_of_not_lt hmin, Nat.le_of_not_lt hmax, Nat.lt_of_not_le hpos, ?_⟩
      rw [execSetDepth, if_neg hrange, if_neg hpos]
      simp only [configureRings_cfg]
      rfl

theorem execSetDelay_cases (femtoseconds : Nat) (s : State) :
    (∃ code, execSetDelay femtoseconds s =
      .next (raiseConfigError code (commandWord (.setDelay femtoseconds)) s)) ∨
    (∃ pos < s.cfg.W.toNat,
      execSetDelay femtoseconds s =
        .next
          (setHorizontal s.cfg.W (.ofNat 32 pos) s.cfg.addHoldoff (positionSet (.ofNat 32 pos) s))) := by
  by_cases h : s.cfg.W.toNat ≤ delayPos s.par femtoseconds
  · exact .inl ⟨_, if_pos h⟩
  · exact .inr ⟨_, Nat.lt_of_not_le h, if_neg h⟩

theorem execSetSrc_cases (channel : Nat) (s : State) :
    (∃ code, execSetSrc channel s =
      .next (raiseConfigError code (commandWord (.setSrc channel)) s)) ∨
    (channel < s.par.nch ∧ execSetSrc channel s = .next (resetEngine (sourceSet channel s))) := by
  by_cases h : s.par.nch ≤ channel
  · exact .inl ⟨_, if_pos h⟩
  · exact .inr ⟨Nat.lt_of_not_le h, if_neg h⟩

theorem execSetLevel_cases (microvolts : Int) (s : State) :
    (∃ code, execSetLevel microvolts s =
      .next (raiseConfigError code (commandWord (.setLevel microvolts)) s)) ∨
    (∃ level, execSetLevel microvolts s = .next (setVertical level s.cfg.hyst (levelSet level s))) := by
  by_cases h : (s.par.fsUv[srcChannel s.cfg]).toNat < 2 * microvolts.natAbs
  · exact .inl ⟨_, if_pos h⟩
  · exact .inr ⟨_, if_neg h⟩

/-! ### What the reader, a micro-step and a phase can do -/

/-- What an operation of the reader that answers a next state does (45_bridge.md R298 to R306). -/
inductive ReaderStep (s : State) : Instr → State → Prop
  | idle (i : Instr) : ReaderStep s i s
  | opened (h : ¬(s.br.isOpen = true ∧ s.br.latched = true)) :
      ReaderStep s .rdrOpen { s with br := { s.br with isOpen := true, latched := false } }
  | waited (ho : s.br.isOpen = true) (hw : s.br.waiting = true) :
      ReaderStep s .rdrRequestAndWait (waitStep s)
  | requested (ho : s.br.isOpen = true) (hw : s.br.waiting = false) :
      ReaderStep s .rdrRequestAndWait (requestStep s)
  | headerRead : ReaderStep s .rdrReadHeader (readHeader s)
  | regionStarted (ho : s.br.isOpen = true) (hw : s.br.waiting = false) :
      ReaderStep s .rdrReadRegion (startRegionRead s)
  | byteRead (r : RegionCursor) (hr : s.br.reading = some r) (bytes : List Byte) (free : Nat) :
      ReaderStep s .rdrReadRegion
        { s with
          free := free
          br := { s.br with reading := regionCursor (r.addr + 1) r.more }
          port := { s.port with bytes := bytes } }

theorem readerReady_iff (b : Br) : readerReady b = true ↔ b.isOpen = true ∧ b.waiting = false := by
  simp [readerReady]

theorem exec_readerStep {i : Instr} {s t : State} (hi : isReaderOp i = true)
    (h : exec i s = .next t) : ReaderStep s i t := by
  cases i with
  | rdrOpen =>
    simp only [exec, execRdrOpen] at h
    split at h
    · cases h
    · rename_i hn
      split at h <;> cases h
      · exact .opened hn
      · exact .idle _
  | rdrRequestAndWait =>
    simp only [exec, execRdrRequestAndWait] at h
    cases ho : s.br.isOpen <;> cases hw : s.br.waiting <;> rw [ho, hw] at h <;> cases h
    · exact .idle _
    · exact .idle _
    · exact .requested ho hw
    · exact .waited ho hw
  | rdrReadHeader =>
    simp only [exec, execRdrReadHeader] at h
    split at h <;> cases h
    · exact .headerRead
    · exact .idle _
  | rdrReadRegion =>
    simp only [exec, execRdrReadRegion] at h
    split at h
    · rename_i hready
      obtain ⟨ho, hw⟩ := (readerReady_iff _).1 hready
      split at h
      · cases h
        exact .regionStarted ho hw
      · rename_i r hr
        rcases readRegionByte_cases r s with ⟨_, _, hb⟩ | ⟨_, _, hb⟩ | ⟨_, hb⟩ <;> rw [hb] at h <;>
          cases h
        · exact .byteRead r hr _ s.free
        · exact .byteRead r hr _ _
    · cases h
      exact .idle _
  | _ => cases hi

/-- What a micro-step that answers a next state does, `s` being the state with it taken off the work list
(44_controller_sequencer.md R248 to R258). -/
inductive MicroStep (s : State) : Micro → State → Prop
  | goto (p : Phase) : MicroStep s (.goto p) (gotoPhase p s)
  | scan (u : State) (hu : u = processLane (laneOf s.c.lanes (srcChannel s.cfg).val) s) :
      MicroStep s .scan (withTodo (.deliverEnds u.trg.ends :: s.c.todo) u)
  | noEnds : MicroStep s (.deliverEnds []) s
  | nextEnd (e : BitVec 32) (es : List (BitVec 32)) :
      MicroStep s (.deliverEnds (e :: es))
        (withTodo (deliverProg (laneLen s.par - e.toNat) true ++ .endDelivered es :: s.c.todo) s)
  | singleDone (es : List (BitVec 32)) (hm : s.cfg.mode = .single) :
      MicroStep s (.endDelivered es) { s with c := { s.c with runMode := false } }
  | moreEnds (es : List (BitVec 32)) :
      MicroStep s (.endDelivered es) (withTodo (.deliverEnds es :: s.c.todo) s)
  | noForce : MicroStep s .serviceForce s
  | forceDropped (hd : s.c.delivered = true) :
      MicroStep s .serviceForce { s with c := { s.c with forcePending := false } }
  | forceStarted :
      MicroStep s .serviceForce (withTodo (deliverProg 0 false ++ .forceServed :: s.c.todo) s)
  | forceServed (runMode : Bool)
      (hr : runMode = if s.cfg.mode = .single then false else s.c.runMode) :
      MicroStep s .forceServed
        { s with c := { s.c with runMode := runMode, forcePending := false } }
  | noTimeout (n : Word64) : MicroStep s .autoTimeout { s with c := { s.c with autoCount := n } }
  | timedOut (n : Word64) :
      MicroStep s .autoTimeout
        (withTodo (deliverProg 0 false ++ s.c.todo) { s with c := { s.c with autoCount := n } })
  | streamDone : MicroStep s .streamLoop s
  | streamDue :
      MicroStep s .streamLoop (withTodo (deliverProg 0 false ++ .streamTaken :: s.c.todo) s)
  | streamTaken (n : Word64) :
      MicroStep s .streamTaken
        { s with c := { s.c with streamCount := n, todo := .streamLoop :: s.c.todo } }
  | viewed (endOffset : Nat) (trig : Bool) :
      MicroStep s (.copyWindow endOffset trig)
        (withTodo ((channels s.par).map (.readWindow endOffset) ++ .dataWritten trig :: s.c.todo) s)
  | noView (endOffset : Nat) (trig : Bool)
      (hsel : s.bw.shadow.activeRegion ≠ 1 ∧ s.bw.shadow.activeRegion ≠ 2) :
      MicroStep s (.copyWindow endOffset trig) (raiseFatal fRegionEnum s)
  | windowRead (endOffset : Nat) (c : Fin 4) (d : List Byte) (hd : d.length = s.cfg.W.toNat) :
      MicroStep s (.readWindow endOffset c)
        (withTodo (.storeBytes c 0 d :: s.c.todo) (drawn s.cfg.W.toNat s))
  | noWindow (endOffset : Nat) (c : Fin 4)
      (hcap : s.rb[c].cap.toNat < s.cfg.W.toNat + endOffset) :
      MicroStep s (.readWindow endOffset c) (raiseFatal fRingBounds s)
  | noBytes (c : Fin 4) (k : Nat) : MicroStep s (.storeBytes c k []) s
  | stored (c : Fin 4) (k : Nat) (b : Byte) (bs : List Byte) (a : Nat) (hlow : hdrBytes ≤ a)
      (hhigh : a < segBytes s.par) :
      MicroStep s (.storeBytes c k (b :: bs))
        (withTodo (.storeBytes c (k + 1) bs :: s.c.todo) { s with seg := s.seg.write a b })
  | notStored (c : Fin 4) (k : Nat) (b : Byte) (bs : List Byte)
      (hsel : regionBase s.par s.bw.shadow.activeRegion = none) :
      MicroStep s (.storeBytes c k (b :: bs)) (raiseFatal fRegionEnum s)
  | dataWritten (trig : Bool) : MicroStep s (.dataWritten trig) (dataWritten trig s)
  | polled : MicroStep s .swapPoll (swapPoll s)
  | swapped (due : swapDue s.bw = true) :
      MicroStep s .swapPublish (withTodo (.swapRelease :: s.c.todo) (swapPublish s))
  | noSwap : MicroStep s .swapPublish s
  | released : MicroStep s .swapRelease (swapRelease s)
  | delivered : MicroStep s .markDelivered (markDelivered s)

theorem runMicro_step {m : Micro} {s t : State} (h : runMicro m s = .next t) : MicroStep s m t := by
  cases m with
  | goto p => cases h; exact .goto p
  | scan => cases h; exact .scan _ rfl
  | deliverEnds ends =>
    cases ends with
    | nil => cases h; exact .noEnds
    | cons e es => cases h; exact .nextEnd e es
  | endDelivered es =>
    simp only [runMicro] at h
    split at h <;> cases h
    · rename_i hm
      exact .singleDone es hm
    · exact .moreEnds es
  | serviceForce =>
    simp only [runMicro] at h
    split at h
    · split at h <;> cases h
      · rename_i hd
        exact .forceDropped hd
      · exact .forceStarted
    · cases h
      exact .noForce
  | forceServed => cases h; exact .forceServed _ rfl
  | autoTimeout =>
    simp only [runMicro] at h
    split at h
    · cases h
      exact .noTimeout s.c.autoCount
    · split at h <;> cases h
      · exact .timedOut _
      · exact .noTimeout _
  | streamLoop =>
    simp only [runMicro] at h
    split at h <;> cases h
    · exact .streamDue
    · exact .streamDone
  | streamTaken => cases h; exact .streamTaken _
  | copyWindow endOffset trig =>
    simp only [runMicro] at h
    rcases acqRegion_cases s with ⟨_, hr⟩ | ⟨_, hr⟩ | ⟨h₁, h₂, hr⟩ <;> rw [hr] at h <;> cases h
    · exact .viewed endOffset trig
    · exact .viewed endOffset trig
    · exact .noView endOffset trig ⟨h₁, h₂⟩
  | readWindow endOffset c =>
    simp only [runMicro] at h
    rcases readRing_cases c s.cfg.W.toNat endOffset s with ⟨hcap, hr⟩ | ⟨_, hr⟩ <;> rw [hr] at h <;>
      cases h
    · exact .noWindow endOffset c hcap
    · exact .windowRead endOffset c _ (by simp)
  | storeBytes c k bytes =>
    cases bytes with
    | nil => cases h; exact .noBytes c k
    | cons b bs =>
      simp only [runMicro] at h
      rcases storeWindowByte_cases c k b s with
        ⟨base, _, hlow, hhigh, hr⟩ | ⟨hsel, hr⟩ | ⟨_, _, _, hr⟩ <;> rw [hr] at h <;> cases h
      · exact .stored c k b bs _ hlow hhigh
      · exact .notStored c k b bs hsel
  | dataWritten trig => cases h; exact .dataWritten trig
  | swapPoll => cases h; exact .polled
  | swapPublish =>
    simp only [runMicro] at h
    split at h <;> cases h
    · rename_i hdue
      exact .swapped hdue
    · exact .noSwap
  | swapRelease => cases h; exact .released
  | markDelivered => cases h; exact .delivered

/-- What the step of a phase that answers a next state does (44_controller_sequencer.md R241 to R260;
43_controller_commands.md R210). -/
inductive PhaseStep (s : State) : Phase → State → Prop
  | checked (p : Phase) (hp : p = .exit ∨ p = .cmd) : PhaseStep s .check (gotoPhase p s)
  | drained : PhaseStep s .cmd (gotoPhase .wait s)
  | command (w : Word64) (q : List Word64) (i : Instr) (t : State) (hq : s.cmdq = w :: q)
      (hd : decodeCmd w = some i) (h : exec i { s with cmdq := q } = .next t) : PhaseStep s .cmd t
  | unknown (w : Word64) (q : List Word64) :
      PhaseStep s .cmd (raiseConfigError eUnknownCmd w { s with cmdq := q })
  | blockTaken (block : List Byte) (q : List (List Byte)) :
      PhaseStep s .wait { s with blkq := q, c := { s.c with blk := some block, phase := .feed } }
  | idleSwap : PhaseStep s .wait (withTodo (swapProg ++ [.goto .check]) s)
  | idle : PhaseStep s .wait (gotoPhase .check s)
  | fed (u t : State) (hu : u = demux s.par.nch { s with c := { s.c with delivered := false } })
      (h : feedRings (channels u.par) u = .ok () t) : PhaseStep s .feed (gotoPhase .trig t)
  | stopped : PhaseStep s .trig (gotoPhase .ret s)
  | streaming (n : Word64) :
      PhaseStep s .trig
        { s with c := { s.c with streamCount := n, todo := [.streamLoop, .goto .ret] } }
  | triggering : PhaseStep s .trig (withTodo (triggerBranch s.cfg.mode) s)
  | returned : PhaseStep s .ret (phaseReturn s)
  | swapping : PhaseStep s .swap (phaseSwap s)
  | exited : PhaseStep s .exit s

theorem runPhase_step {s t : State} (h : runPhase s = .next t) : PhaseStep s s.c.phase t := by
  unfold runPhase at h
  cases hp : s.c.phase <;> rw [hp] at h
  case check =>
    simp only [phaseCheck] at h
    split at h <;> cases h
    · exact .checked _ (.inl rfl)
    · exact .checked _ (.inr rfl)
  case cmd =>
    rcases phaseCmd_cases s with ⟨_, hr⟩ | ⟨w, q, i, hq, hd, hr⟩ | ⟨w, q, _, _, hr⟩ <;>
      dsimp only at h <;> rw [hr] at h
    · cases h
      exact .drained
    · exact .command w q i t hq hd h
    · cases h
      exact .unknown w q
  case wait =>
    simp only [phaseWait, idle] at h
    split at h
    · cases h
      exact .blockTaken _ _
    · split at h <;> cases h
      · exact .idleSwap
      · exact .idle
  case feed =>
    simp only [phaseFeed] at h
    rcases feedRings_ok_or_refused (channels s.par)
      (demux s.par.nch { s with c := { s.c with delivered := false } }) with ⟨u, hf⟩ | hf <;>
      rw [hf] at h <;> cases h
    exact .fed _ u rfl (by simpa using hf)
  case trig =>
    simp only [phaseTrig] at h
    split at h
    · split at h <;> cases h
      · exact .streaming _
      · exact .triggering
    · cases h
      exact .stopped
  case ret => cases h; exact .returned
  case swap => cases h; exact .swapping
  case exit => cases h; exact .exited

/-- What a turn that answers a next state does (00_scope.md R6). -/
inductive TurnStep (s : State) : Turn → State → Prop
  | ctl (t : State) (h : ctlStep s = .next t) : TurnStep s .ctl t
  | readerBusy (op : ReaderOp) : TurnStep s (.con op) s
  | readerIssues (op : ReaderOp) (t : State) (hw : s.br.waiting = false) (hr : s.br.reading = none)
      (h : ReaderStep (readerOperand op s) (readerInstr op) t) : TurnStep s (.con op) t
  | readerWaits (hw : s.br.waiting = true) : TurnStep s .conWait (waitStep s)
  | readerReads (t : State) (h : ReaderStep s .rdrReadRegion t) : TurnStep s .conRead t
  | cancelled : TurnStep s .hostCancel { s with c := { s.c with cancel := true } }
  | queued (turn : Turn) (blkq pool : List (List Byte)) (cmdq rspq : List Word64) :
      TurnStep s turn { s with blkq := blkq, pool := pool, cmdq := cmdq, rspq := rspq }

theorem readerBusy_eq_false_iff (b : Br) :
    readerBusy b = false ↔ b.waiting = false ∧ b.reading = none := by
  simp [readerBusy]

theorem runTurn_step {turn : Turn} {s t : State} (h : runTurn turn s = .next t) :
    TurnStep s turn t := by
  cases turn with
  | ctl => exact .ctl t h
  | src block =>
    cases h
    unfold srcBlock
    split <;> exact .queued _ _ _ _ _
  | con op =>
    simp only [runTurn, conIssue] at h
    split at h
    · cases h
      exact .readerBusy op
    · rename_i hb
      obtain ⟨hw, hr⟩ := (readerBusy_eq_false_iff _).1 (Bool.eq_false_iff.2 hb)
      exact .readerIssues op t hw hr (exec_readerStep (by cases op <;> rfl) h)
  | conWait =>
    simp only [runTurn, conWait] at h
    split at h <;> cases h
    · rename_i hw
      exact .readerWaits hw
    · exact .queued _ _ _ _ _
  | conRead =>
    simp only [runTurn, conRead] at h
    split at h
    · exact .readerReads t (exec_readerStep rfl h)
    · cases h
      exact .queued _ _ _ _ _
  | hostCmd w =>
    cases h
    unfold hostCmd
    split <;> exact .queued _ _ _ _ _
  | hostCancel => cases h; exact .cancelled
  | srcTake | hostTake => cases h; exact .queued _ _ _ _ _

/-! ### Every step is one update of the data -/

theorem SameData.withTodo (todo : List Micro) (s : State) : SameData s (withTodo todo s) :=
  {}

theorem SameData.swapRelease (s : State) : SameData s (swapRelease s) :=
  {}

theorem SameData.withPort (port : Ports) (s : State) : SameData s { s with port := port } :=
  {}

theorem SameData.demux (n : Nat) (s : State) : SameData s (demux n s) := by
  constructor <;> simp

theorem SameData.waitStep (s : State) : SameData s (waitStep s) := by
  constructor <;> simp

theorem SameData.startRegionRead (s : State) : SameData s (startRegionRead s) := by
  rcases startRegionRead_cases s with ⟨_, _, h⟩ | ⟨_, h⟩ <;> rw [h] <;>
    exact {}

theorem SameData.readerOperand (op : ReaderOp) (s : State) : SameData s (readerOperand op s) := by
  cases op <;> exact {}

theorem SameData.turnTaken (s : State) : SameData s (turnTaken s) := by
  obtain ⟨_, _, h⟩ := turnTaken_frame s
  rw [h]
  exact {}

/-- Each command is one update of the data. -/
theorem exec_command_update {i : Instr} {s t : State} (hi : isCommand i = true)
    (h : exec i s = .next t) : ByUpdate CoreUpdate s t := by
  cases i with
  | run =>
    rcases execRun_cases s with ⟨_, hr⟩ | ⟨_, hr⟩ <;> cases hr.symm.trans h
    · exact .of_same (.refl s)
    · exact .of_update .restart {}
  | stop => cases h; exact .of_same {}
  | force => cases h; exact .of_same {}
  | setMode mode => cases h; exact .of_update (.mode mode) {}
  | setDepth samples =>
    rcases execSetDepth_cases samples s with ⟨_, hr⟩ | ⟨hmin, hmax, hpos, hr⟩ <;>
      cases hr.symm.trans h
    · exact .of_same {}
    · exact .of_update (.depth samples hmin hmax hpos) {}
  | setRate samplingHz => cases h; exact .of_same (.refl s)
  | setSrc channel =>
    rcases execSetSrc_cases channel s with ⟨_, hr⟩ | ⟨hc, hr⟩ <;> cases hr.symm.trans h
    · exact .of_same {}
    · exact .of_update (.source channel hc) (.refl _)
  | setDelay femtoseconds =>
    rcases execSetDelay_cases femtoseconds s with ⟨_, hr⟩ | ⟨pos, hpos, hr⟩ <;>
      cases hr.symm.trans h
    · exact .of_same {}
    · exact .of_update (.delay pos hpos) (.refl _)
  | setLevel microvolts =>
    rcases execSetLevel_cases microvolts s with ⟨_, hr⟩ | ⟨level, hr⟩ <;> cases hr.symm.trans h
    · exact .of_same {}
    · exact .of_update (.level level) (.refl _)
  | setType edge => cases h; exact .of_update (.type edge) (.refl _)
  | getRate => cases h; exact .of_same {}
  | dmxDemux | rbConfigure | rbWrite | rbRead | trgSetVertical | trgSetHorizontal | trgSetEdge
  | trgReset | trgProcess | brgInit | brgAcqRegion | brgDataWritten | brgSwitchIfNeeded | rdrOpen
  | rdrRequestAndWait | rdrReadHeader | rdrReadRegion => cases hi

/-- An operation of the reader changes no data (60_exceptions.md R346). -/
theorem ReaderStep.same {i : Instr} {s t : State} (h : ReaderStep s i t) : SameData s t := by
  cases h with
  | waited => exact .waitStep s
  | regionStarted => exact .startRegionRead s
  | _ => exact {}

/-- Each micro-step is one update of the data. -/
theorem MicroStep.update {m : Micro} {s t : State} (h : MicroStep s m t) :
    ByUpdate CoreUpdate s t := by
  cases h with
  | scan u hu => subst hu; exact .of_update (.scan _) (.withTodo _ _)
  | stored _ _ b _ a hlow hhigh => exact .of_update (.store a b hlow hhigh) (.withTodo _ _)
  | dataWritten trig => exact .of_update (.written trig) (.refl _)
  | polled => exact .of_update .poll (.refl _)
  | swapped due => exact .of_update (.swap due) (.withTodo _ _)
  | _ => exact .of_same {}

/-- The step of each phase is one update of the data. -/
theorem PhaseStep.update {p : Phase} {s t : State} (h : PhaseStep s p t) :
    ByUpdate CoreUpdate s t := by
  cases h with
  | command w q i t hq hd he =>
    exact .after_same (s' := { s with cmdq := q }) {}
      (exec_command_update (isCommand_of_decodeCmd hd) he)
  | fed u t hu hf =>
    subst hu
    exact .after_same
      (.trans (t := { s with c := { s.c with delivered := false } }) {}
        (.demux s.par.nch _))
      (.of_update (.feed t hf) {})
  | _ => exact .of_same {}

/-- Each step of `CTL` is one update of the data. -/
theorem ctlStep_update {s t : State} (h : ctlStep s = .next t) : ByUpdate CoreUpdate s t := by
  rcases ctlStep_cases s with ⟨_, hr⟩ | ⟨_, r, _, hr⟩ | ⟨_, _, m, rest, _, hr⟩ | ⟨_, _, _, hr⟩ <;>
    rw [hr] at h
  · cases h
    exact .of_same (.refl s)
  · cases h
    unfold rspWait
    split <;> exact .of_same {}
  · exact .after_same (.withTodo rest s) (runMicro_step h).update
  · exact (runPhase_step h).update

/-- Each turn is one update of the data. -/
theorem TurnStep.update {turn : Turn} {s t : State} (h : TurnStep s turn t) :
    ByUpdate CoreUpdate s t := by
  cases h with
  | ctl _ h => exact ctlStep_update h
  | readerIssues op _ _ _ h => exact .of_same ((SameData.readerOperand op s).trans h.same)
  | readerWaits => exact .of_same (.waitStep s)
  | readerReads _ h => exact .of_same h.same
  | _ => exact .of_same {}

/-- An operation presented for direct issue is one update of the data. -/
theorem exec_update {i : Instr} {s t : State} (h : exec i s = .next t) :
    ByUpdate DirectUpdate s t := by
  have same {t : State} (h : SameData s t) : ByUpdate DirectUpdate s t :=
    (ByUpdate.of_same h).mono fun _ _ => .core
  cases i with
  | run | stop | force | setMode | setDepth | setRate | setSrc | setDelay | setLevel | setType
  | getRate => exact (exec_command_update rfl h).mono fun _ _ => .core
  | rdrOpen | rdrRequestAndWait | rdrReadHeader | rdrReadRegion =>
    exact same (exec_readerStep rfl h).same
  | dmxDemux => cases h; exact same (.demux _ s)
  | rbConfigure =>
    simp only [exec, execRbConfigure] at h
    split at h <;> cases h
    exact .of_update (.configureRing _ _) (.refl _)
  | rbWrite =>
    simp only [exec, execRbWrite] at h
    rcases writeRing_cases s.port.c s.port.lane s with ⟨_, _, hr⟩ | ⟨_, hr⟩ <;> rw [hr] at h <;>
      cases h
    exact .of_update (.writeRing _ _) (.refl _)
  | rbRead =>
    simp only [exec, execRbRead] at h
    rcases readRing_cases s.port.c s.port.len s.port.endOffset.toNat s with ⟨_, hr⟩ | ⟨_, hr⟩ <;>
      rw [hr] at h <;> cases h <;> exact same {}
  | trgSetVertical => cases h; exact .of_update (.vertical _ _) (.refl _)
  | trgSetHorizontal => cases h; exact .of_update (.horizontal _ _ _) (.refl _)
  | trgSetEdge => cases h; exact .of_update (.edge _) (.refl _)
  | trgReset => cases h; exact .of_update (.core .restart) (.refl _)
  | trgProcess => cases h; exact .of_update (.core (.scan _)) (.refl _)
  | brgInit => cases h; exact .of_update .init (.refl _)
  | brgAcqRegion =>
    simp only [exec, execBrgAcqRegion] at h
    rcases acqRegion_cases s with ⟨_, hr⟩ | ⟨_, hr⟩ | ⟨_, _, hr⟩ <;> rw [hr] at h <;> cases h <;>
      exact same {}
  | brgDataWritten => cases h; exact .of_update (.core (.written _)) (.refl _)
  | brgSwitchIfNeeded =>
    simp only [exec, execBrgSwitchIfNeeded] at h
    rcases switchIfNeeded_cases s with ⟨hdue, hr⟩ | ⟨_, hr⟩ <;> simp only [hr] at h <;> cases h
    · exact .of_update (.pollAndSwap hdue) (.trans (.swapRelease _) (.withPort _ _))
    · exact .of_update (.core .poll) (.withPort _ _)

/-- Every step of the assembled core is a turn. -/
theorem step_turnStep {s t : State} (hu : s.uop = none) (h : step s = .next t) :
    s.par.valid = true ∧ TurnStep (turnTaken s) (nextTurn s) t := by
  obtain ⟨hv, _⟩ := step_cases h
  rw [step_turn hv hu] at h
  exact ⟨hv, runTurn_step h⟩

/-- Every step of the assembled core is one update of the data. -/
theorem step_coreUpdate {s t : State} (hu : s.uop = none) (h : step s = .next t) :
    ByUpdate CoreUpdate s t :=
  .after_same (.turnTaken s) (step_turnStep hu h).2.update

/-- Every step of the machine is one update of the data. -/
theorem step_update {s t : State} (h : step s = .next t) :
    s.par.valid = true ∧ ByUpdate DirectUpdate s t := by
  obtain ⟨hv, ⟨_, i, _, _, _, he⟩ | ⟨_, _, _, _, _, rfl⟩ | ⟨hu, _⟩⟩ := step_cases h
  · exact ⟨hv, .after_same (s' := { s with uop := none }) {}
      (exec_update he)⟩
  · exact ⟨hv, (ByUpdate.of_same (.refl t)).mono fun _ _ => .core⟩
  · exact ⟨hv, (step_coreUpdate hu h).mono fun _ _ => .core⟩

/-! ### What a command does to the controller -/

/-- `C.runMode` after a command (43_controller_commands.md R213, R214). -/
def runModeAfter (i : Instr) (runMode : Bool) : Bool :=
  match i with
  | .run => true
  | .stop => false
  | _ => runMode

/-- `C.forcePending` after a command (R215). -/
def forcePendingAfter (i : Instr) (forcePending : Bool) : Bool :=
  match i with
  | .force => true
  | _ => forcePending

/-- A command writes of the controller its two flags, its counters and the response held; of the bridge
writer the shadow header; and nothing of the reader and the semaphores. -/
structure CommandFrame (i : Instr) (s t : State) : Prop where
  ctl : t.c =
    { s.c with
      runMode := runModeAfter i s.c.runMode
      forcePending := forcePendingAfter i s.c.forcePending
      autoCount := t.c.autoCount
      streamCount := t.c.streamCount
      rspHold := t.c.rspHold }
  writer : t.bw = { s.bw with shadow := t.bw.shadow }
  fatal : t.err.fatal = s.err.fatal
  reader : t.br = s.br
  semReq : t.semReq = s.semReq
  semResp : t.semResp = s.semResp
  uop : t.uop = s.uop

/-- A rejected command leaves the controller as it is (60_exceptions.md R325). -/
theorem CommandFrame.of_rejected {i : Instr} (hr : ∀ b, runModeAfter i b = b)
    (hf : ∀ b, forcePendingAfter i b = b) (code : Byte) (w : Word64) (s : State) :
    CommandFrame i s (raiseConfigError code w s) :=
  ⟨by simp [hr, hf], rfl, rfl, rfl, rfl, rfl, rfl⟩

@[simp] theorem setHorizontal_fatal (W pos add : BitVec 32) (s : State) :
    (setHorizontal W pos add s).err.fatal = s.err.fatal := by
  unfold setHorizontal
  split <;> rfl

@[simp] theorem setVertical_fatal (level hyst : Byte) (s : State) :
    (setVertical level hyst s).err.fatal = s.err.fatal := by
  unfold setVertical
  split <;> rfl

theorem exec_commandFrame {i : Instr} {s t : State} (hi : isCommand i = true)
    (h : exec i s = .next t) : CommandFrame i s t := by
  cases i with
  | run =>
    rcases execRun_cases s with ⟨hrun, hr⟩ | ⟨_, hr⟩ <;> cases hr.symm.trans h
    · refine ⟨?_, rfl, rfl, rfl, rfl, rfl, rfl⟩
      simp only [runModeAfter, forcePendingAfter, ← hrun]
    · exact ⟨rfl, rfl, rfl, rfl, rfl, rfl, rfl⟩
  | setDepth samples =>
    rcases execSetDepth_cases samples s with ⟨_, hr⟩ | ⟨_, _, _, hr⟩ <;> cases hr.symm.trans h
    · exact .of_rejected (fun _ => rfl) (fun _ => rfl) _ _ s
    · constructor <;> simp [depthSet, widthSet, runModeAfter, forcePendingAfter]
  | setSrc channel =>
    rcases execSetSrc_cases channel s with ⟨_, hr⟩ | ⟨_, hr⟩ <;> cases hr.symm.trans h
    · exact .of_rejected (fun _ => rfl) (fun _ => rfl) _ _ s
    · exact ⟨rfl, rfl, rfl, rfl, rfl, rfl, rfl⟩
  | setDelay femtoseconds =>
    rcases execSetDelay_cases femtoseconds s with ⟨_, hr⟩ | ⟨_, _, hr⟩ <;> cases hr.symm.trans h
    · exact .of_rejected (fun _ => rfl) (fun _ => rfl) _ _ s
    · constructor <;> simp [positionSet, runModeAfter, forcePendingAfter]
  | setLevel microvolts =>
    rcases execSetLevel_cases microvolts s with ⟨_, hr⟩ | ⟨_, hr⟩ <;> cases hr.symm.trans h
    · exact .of_rejected (fun _ => rfl) (fun _ => rfl) _ _ s
    · constructor <;> simp [levelSet, runModeAfter, forcePendingAfter]
  | stop | force | setMode | setRate | setType | getRate =>
    cases h
    exact ⟨rfl, rfl, rfl, rfl, rfl, rfl, rfl⟩
  | dmxDemux | rbConfigure | rbWrite | rbRead | trgSetVertical | trgSetHorizontal | trgSetEdge
  | trgReset | trgProcess | brgInit | brgAcqRegion | brgDataWritten | brgSwitchIfNeeded | rdrOpen
  | rdrRequestAndWait | rdrReadHeader | rdrReadRegion => cases hi

end Sys2Proof.Machine
end

section
/-!
PROOFS. The invariants of 10_state.md that speak of data alone (O49, O50, O51, O52, O54, O59), each kept by
every update.
-/

namespace Sys2Proof.Machine

/-! ### The parameters and the bounds of `CFG` -/

theorem CoreUpdate.par {s t : State} (h : CoreUpdate s t) : t.par = s.par := by
  cases h with
  | feed _ h =>
    obtain ⟨_, rfl, -⟩ := feedRings_frame h
    rfl
  | _ => simp [modeSet, depthSet, widthSet, positionSet, sourceSet, levelSet, typeSet]

theorem DirectUpdate.par {s t : State} (h : DirectUpdate s t) : t.par = s.par := by
  cases h with
  | core h => exact h.par
  | _ => simp

theorem ByUpdate.par {s t : State} (h : ByUpdate DirectUpdate s t) : t.par = s.par :=
  h.keeps (I := fun u => u.par = s.par) (fun _ _ h hs => h.par.trans hs)
    (fun _ _ h hs => h.par.trans hs) rfl

/-- No step changes the parameters (10_state.md R57). -/
theorem step_par {s t : State} (h : step s = .next t) : t.par = s.par := (step_update h).2.par

/-- A predicate of the data that every update within the parameter domain keeps is kept by every step. -/
theorem step_keeps {I : State → Prop} {s t : State} (h : step s = .next t)
    (same : ∀ a b, SameData a b → I a → I b)
    (update : ∀ a b, a.par.valid = true → DirectUpdate a b → I a → I b) (hs : I s) : I t := by
  obtain ⟨hv, hu⟩ := step_update h
  refine (hu.keeps (I := fun u => u.par.valid = true ∧ I u) (fun a b hab ha => ?_)
    (fun a b hab ha => ?_) ⟨hv, hs⟩).2
  · exact ⟨by rw [hab.par]; exact ha.1, same a b hab ha.2⟩
  · exact ⟨by rw [hab.par]; exact ha.1, update a b ha.1 hab ha.2⟩

theorem CfgInv.same {s t : State} (h : SameData s t) (hs : CfgInv s) : CfgInv t := by
  unfold CfgInv
  rwa [h.par, h.cfg]

theorem CoreUpdate.cfgInv {s t : State} (hv : s.par.valid = true) (h : CoreUpdate s t)
    (hs : CfgInv s) : CfgInv t := by
  obtain ⟨hmin, hmax, hpos, hhyst, hsrc⟩ := hs
  have hd := paramsInDomain_of_valid hv
  unfold CfgInv
  rw [h.par]
  cases h with
  | depth samples hmin' hmax' hpos' =>
    have hW : (BitVec.ofNat 32 samples).toNat = samples :=
      Nat.mod_eq_of_lt (hmax'.trans_lt hd.maxw)
    simp only [depthSet, setHorizontal_cfg, configureRings_cfg, widthSet, shadowProc_cfg, hW]
    exact ⟨hmin', hmax', hpos', hhyst, hsrc⟩
  | delay pos hpos' =>
    have hp : (BitVec.ofNat 32 pos).toNat = pos := Nat.mod_eq_of_lt (hpos'.trans s.cfg.W.isLt)
    simp only [setHorizontal_cfg, positionSet, shadowProc_cfg, hp]
    exact ⟨hmin, hmax, hpos', hhyst, hsrc⟩
  | source channel hc =>
    refine ⟨hmin, hmax, hpos, hhyst, ?_⟩
    calc (BitVec.ofNat 2 channel).toNat ≤ channel := Nat.mod_le _ _
      _ < s.par.nch := hc
  | feed _ h =>
    obtain ⟨_, rfl, -⟩ := feedRings_frame h
    exact ⟨hmin, hmax, hpos, hhyst, hsrc⟩
  | level =>
    rw [setVertical_cfg]
    exact ⟨hmin, hmax, hpos, hhyst, hsrc⟩
  | poll =>
    rw [swapPoll_cfg]
    exact ⟨hmin, hmax, hpos, hhyst, hsrc⟩
  | _ => exact ⟨hmin, hmax, hpos, hhyst, hsrc⟩

theorem DirectUpdate.cfgInv {s t : State} (hv : s.par.valid = true) (h : DirectUpdate s t)
    (hs : CfgInv s) : CfgInv t := by
  cases h with
  | core h => exact h.cfgInv hv hs
  | _ => simpa [CfgInv] using hs

/-- Settles O49, by cases on the update. -/
theorem configurationBoundsAreKept : Obligations.ConfigurationBoundsAreKept := by
  intro s t hs h
  exact step_keeps h (fun _ _ => .same) (fun _ _ hv hu => hu.cfgInv hv) hs

/-! ### The countdowns of the engine -/

/-- A capture goes on with the sample, or ends on it (42_trigger_engine.md R183). -/
theorem consumeCapture_engineInv {t : Trg} (hs : t.state = .inCapture) (h : EngineInv t) :
    EngineInv (consumeCapture t).1 := by
  obtain ⟨hcapture, hholdoff, hle, hle', hne⟩ := h
  have hrem : t.captureRemaining ≠ 0 := hcapture.1 hs
  have hnone : t.holdoffRemaining = 0 := by
    by_contra hn
    cases hs.symm.trans (hholdoff.2 hn)
  rcases consumeCapture_cases t with ⟨hgo, hr⟩ | ⟨_, hgap, hr⟩ | ⟨_, _, hr⟩ <;> rw [hr]
  · refine ⟨iff_of_true hs hgo, iff_of_false (by simp [hs]) (not_not.2 hnone), ?_, hle', hne⟩
    change (t.captureRemaining - 1).toNat ≤ _
    bv_omega
  · exact ⟨by simp, iff_of_true rfl hgap, Nat.zero_le _, le_refl _, hne⟩
  · exact engineInv_of_unarmed rfl rfl hnone hne

/-- A crossing begins a capture of the full length (R182). -/
theorem beginCapture_engineInv {t : Trg} (hs : t.state ≠ .inHoldoff) (h : EngineInv t) :
    EngineInv (beginCapture t).1 := by
  obtain ⟨_, hholdoff, _, hle', hne⟩ := h
  have hnone : t.holdoffRemaining = 0 := by
    by_contra hn
    exact hs (hholdoff.2 hn)
  exact consumeCapture_engineInv rfl
    ⟨iff_of_true rfl hne, iff_of_false nofun (not_not.2 hnone), le_refl _, hle', hne⟩

theorem trgStep_engineInv {t : Trg} (x : Byte) (h : EngineInv t) : EngineInv (trgStep t x).1 := by
  have h' := h
  obtain ⟨hcapture, hholdoff, hle, hle', hne⟩ := h'
  unfold trgStep
  cases hs : t.state <;> rw [hs] at hcapture hholdoff <;> dsimp only
  case unarmed =>
    split
    · exact ⟨by simpa using hcapture, by simpa using hholdoff, hle, hle', hne⟩
    · split
      · exact ⟨by simpa using hcapture, by simpa using hholdoff, hle, hle', hne⟩
      · exact h
  case armedRising =>
    split
    exacts [beginCapture_engineInv (by simp [hs]) h, h]
  case armedFalling =>
    split
    exacts [beginCapture_engineInv (by simp [hs]) h, h]
  case inCapture => exact consumeCapture_engineInv hs h
  case inHoldoff =>
    have hnone : t.captureRemaining = 0 := by simpa using hcapture
    have hrem : t.holdoffRemaining ≠ 0 := by simpa using hholdoff
    split
    · exact engineInv_of_unarmed rfl hnone rfl hne
    · rename_i hgo
      refine ⟨iff_of_false nofun (not_not.2 hnone), iff_of_true rfl hgo, hle, ?_, hne⟩
      change (t.holdoffRemaining - 1).toNat ≤ _
      bv_omega

theorem trgScan_engineInv {t : Trg} (i : Nat) (lane : List Byte) (h : EngineInv t) :
    EngineInv (trgScan t i lane).1 := by
  induction lane generalizing t i with
  | nil => exact h
  | cons x xs ih => exact ih (i + 1) (trgStep_engineInv x h)

theorem trgResetted_engineInv {t : Trg} (h : t.captureSamples ≠ 0) : EngineInv (trgResetted t) :=
  engineInv_of_unarmed rfl rfl rfl h

theorem setVertical_engineInv (level hyst : Byte) {s : State} (h : EngineInv s.trg) :
    EngineInv (setVertical level hyst s).trg := by
  obtain ⟨_, _, _, _, hne⟩ := id h
  rcases setVertical_cases level hyst s with ⟨_, hr⟩ | ⟨_, hr⟩ <;> rw [hr]
  exacts [h, trgResetted_engineInv hne]

theorem setHorizontal_engineInv (W pos add : BitVec 32) {s : State} (h : EngineInv s.trg) :
    EngineInv (setHorizontal W pos add s).trg := by
  rcases setHorizontal_cases W pos add s with ⟨_, hr⟩ | ⟨_, hpos, hr⟩ <;> rw [hr]
  · exact h
  · have hne : W - pos ≠ 0 := by bv_omega
    exact engineInv_of_unarmed rfl rfl rfl hne

theorem CoreUpdate.engineInv {s t : State} (h : CoreUpdate s t) (hs : EngineInv s.trg) :
    EngineInv t.trg := by
  obtain ⟨_, _, _, _, hne⟩ := id hs
  cases h with
  | restart | source => exact trgResetted_engineInv hne
  | depth samples =>
    refine setHorizontal_engineInv _ _ _ ?_
    rwa [configureRings_trg]
  | delay => exact setHorizontal_engineInv _ _ _ hs
  | level => exact setVertical_engineInv _ _ hs
  | type => exact trgResetted_engineInv hne
  | feed _ h =>
    obtain ⟨_, rfl, -⟩ := feedRings_frame h
    exact hs
  | scan lane => exact trgScan_engineInv 0 lane hs
  | poll => rwa [swapPoll_trg]
  | _ => exact hs

theorem DirectUpdate.engineInv {s t : State} (h : DirectUpdate s t) (hs : EngineInv s.trg) :
    EngineInv t.trg := by
  obtain ⟨_, _, _, _, hne⟩ := id hs
  cases h with
  | core h => exact h.engineInv hs
  | vertical level hyst => exact setVertical_engineInv _ _ hs
  | horizontal W pos add => exact setHorizontal_engineInv _ _ _ hs
  | edge => exact trgResetted_engineInv hne
  | init => rwa [initBridge_trg]
  | pollAndSwap => rwa [swapPublish_trg, swapPoll_trg]
  | configureRing | writeRing => exact hs

/-- Settles O50: sample by sample, then by cases on the update. -/
theorem countdownsMatchTheState : Obligations.CountdownsMatchTheState :=
  ⟨fun _ x => trgStep_engineInv x, fun _ _ hs h =>
    step_keeps h (fun _ _ hab ha => hab.trg ▸ ha) (fun _ _ _ hu => hu.engineInv) hs⟩

/-! ### The shadow header follows `CFG` -/

/-- The shadow header holds the image of `CFG` (10_state.md R47). -/
def ProcFollows (s : State) : Prop := s.bw.shadow.proc = procImage s.par s.cfg

theorem ProcFollows.same {s t : State} (h : SameData s t) (hs : ProcFollows s) : ProcFollows t := by
  unfold ProcFollows
  rwa [h.par, h.cfg, h.bw]

/-- A lane index keeps its value in the 2 bits of `CFG.src`. -/
theorem setWidth_ofNat_channel {channel : Nat} (h : channel < 4) :
    (BitVec.ofNat 2 channel).setWidth 8 = BitVec.ofNat 8 channel := by
  interval_cases channel <;> rfl

theorem CoreUpdate.procFollows {s t : State} (hv : s.par.valid = true) (h : CoreUpdate s t)
    (hs : ProcFollows s) : ProcFollows t := by
  unfold ProcFollows at hs ⊢
  cases h with
  | mode mode => simp [modeSet, hs, procImage]
  | depth samples => simp [depthSet, widthSet, hs, procImage]
  | delay pos => simp [positionSet, hs, procImage]
  | source channel hc =>
    have hnch := (paramsInDomain_of_valid hv).nch
    have hfour : channel < 4 := by omega
    simp [sourceSet, hs, procImage, setWidth_ofNat_channel hfour]
  | level level => simp [levelSet, hs, procImage]
  | type edge => simp [typeSet, hs, procImage]
  | feed _ h =>
    obtain ⟨_, rfl, -⟩ := feedRings_frame h
    exact hs
  | poll =>
    rcases swapPoll_cases s with ⟨_, hr⟩ | ⟨_, _, hr⟩ | ⟨_, _, hr⟩ <;> rw [hr] <;> exact hs
  | _ => exact hs

theorem DirectUpdate.procFollows {s t : State} (hv : s.par.valid = true) (h : DirectUpdate s t)
    (hs : ProcFollows s) : ProcFollows t := by
  cases h with
  | core h => exact h.procFollows hv hs
  | vertical | horizontal => simpa [ProcFollows] using hs
  | configureRing | writeRing | edge => exact hs
  | init => simp [ProcFollows, initBridge, initHeader]
  | pollAndSwap due =>
    exact (CoreUpdate.swap due).procFollows (by rwa [swapPoll_par])
      (CoreUpdate.poll.procFollows hv hs)

/-- Settles O51, by cases on the update: each command writes a register of `CFG` and its image. -/
theorem shadowFollowsConfiguration : Obligations.ShadowFollowsConfiguration := by
  intro s t hs h
  exact step_keeps h (fun _ _ => ProcFollows.same) (fun _ _ hv hu => hu.procFollows hv) hs

/-! ### The acquisitions are accounted for -/

/-- A published acquisition leaves the acquiring region (45_bridge.md R290). -/
theorem swapPublish_countInv {s : State} (due : swapDue s.bw = true) (hs : CountInv s) :
    CountInv (swapPublish s) := by
  have hfilled : s.bw.filled = true := (Bool.and_eq_true_iff.1 due).2
  unfold CountInv at hs ⊢
  rw [hfilled, if_pos rfl] at hs
  change s.bw.shadow.totalAcquisitions =
    s.bw.shadow.droppedAcquisitions + .ofNat 64 (s.bw.swaps + 1) + 0
  have hnext : BitVec.ofNat 64 (s.bw.swaps + 1) = BitVec.ofNat 64 s.bw.swaps + 1 :=
    BitVec.ofNat_add _ _
  rw [hs, hnext]
  ring

/-- A delivery counts one acquisition, and one dropped where it overwrites one not published (R285). -/
theorem dataWritten_countInv (trig : Bool) {s : State} (hs : CountInv s) :
    CountInv (dataWritten trig s) := by
  unfold CountInv at hs ⊢
  change s.bw.shadow.totalAcquisitions + 1 =
    (if s.bw.filled then s.bw.shadow.droppedAcquisitions + 1
      else s.bw.shadow.droppedAcquisitions) + .ofNat 64 s.bw.swaps + 1
  cases hf : s.bw.filled <;> rw [hs, hf]
  · exact congrArg (· + 1) (BitVec.add_zero _)
  · simp only [if_true]
    ring

theorem swapPoll_countInv {s : State} (hs : CountInv s) : CountInv (swapPoll s) := by
  rcases swapPoll_cases s with ⟨_, hr⟩ | ⟨_, _, hr⟩ | ⟨_, _, hr⟩ <;> rw [hr] <;> exact hs

theorem CoreUpdate.countInv {s t : State} (h : CoreUpdate s t) (hs : CountInv s) : CountInv t := by
  cases h with
  | depth | delay | level => simpa [CountInv, depthSet, widthSet, positionSet, levelSet] using hs
  | feed _ h =>
    obtain ⟨_, rfl, -⟩ := feedRings_frame h
    exact hs
  | written trig => exact dataWritten_countInv trig hs
  | poll => exact swapPoll_countInv hs
  | swap due => exact swapPublish_countInv due hs
  | _ => exact hs

theorem DirectUpdate.countInv {s t : State} (h : DirectUpdate s t) (hs : CountInv s) :
    CountInv t := by
  cases h with
  | core h => exact h.countInv hs
  | vertical | horizontal => simpa [CountInv] using hs
  | configureRing | writeRing | edge => exact hs
  | init => simp [CountInv, initBridge, initHeader]
  | pollAndSwap due => exact swapPublish_countInv due (swapPoll_countInv hs)

theorem CountInv.same {s t : State} (h : SameData s t) (hs : CountInv s) : CountInv t := by
  unfold CountInv
  rwa [h.bw]

/-- Settles O52, by cases on the update: only a delivery, a swap and `BRG.INIT` write the counts. -/
theorem acquisitionsAreAccounted : Obligations.AcquisitionsAreAccounted := by
  intro s t hs h
  exact step_keeps h (fun _ _ => .same) (fun _ _ _ hu => hu.countInv) hs

/-! ### The published header -/

/-- From `s` to `t` the header in the segment stays, or becomes the shadow header whole. -/
def HeaderKeptOrPublished (s t : State) : Prop :=
  (∀ a < hdrBytes, t.seg.read? a = s.seg.read? a) ∨
    (∀ a < hdrBytes, t.seg.read? a = (headerBytes t.bw.shadow)[a]?)

/-- A publication stores the shadow header whole (45_bridge.md R288). -/
theorem publish_read (s : State) {a : Nat} (ha : a < hdrBytes) :
    (publish s).seg.read? a = (headerBytes (publish s).bw.shadow)[a]? := by
  rw [publish_seg, publish_bw, read_writeHeader _ _ ha]

theorem CoreUpdate.header {s t : State} (h : CoreUpdate s t) : HeaderKeptOrPublished s t := by
  cases h with
  | store a b hlow =>
    exact .inl fun a' ha => Memory.read_write_ne _ _ (Nat.ne_of_lt (ha.trans_le hlow))
  | swap => exact .inr fun _ => publish_read _
  | feed _ h =>
    obtain ⟨_, rfl, -⟩ := feedRings_frame h
    exact .inl fun _ _ => rfl
  | _ =>
    refine .inl fun a _ => ?_
    simp [modeSet, depthSet, widthSet, positionSet, sourceSet, levelSet, typeSet]

theorem DirectUpdate.header {s t : State} (h : DirectUpdate s t) : HeaderKeptOrPublished s t := by
  cases h with
  | core h => exact h.header
  | init | pollAndSwap => exact .inr fun _ => publish_read _
  | _ => exact .inl fun a _ => by simp

/-- Settles O54: of all updates only the publications write below the regions. -/
theorem headerChangesOnlyByPublication : Obligations.HeaderChangesOnlyByPublication := by
  intro s t h
  obtain ⟨_, u, v, hu, huv, hv⟩ := step_update h
  rcases huv.header with hkept | hpublished
  · refine .inl fun a ha => ?_
    rw [hv.seg, hkept a ha, hu.seg]
  · refine .inr fun a ha => ?_
    rw [hv.seg, hv.bw, hpublished a ha]

/-! ### The memories -/

/-- What holds of every ring and is kept by each write holds of the rings fed. -/
theorem feedRings_keeps {P : Fin 4 → Ring → Prop}
    (hP : ∀ c r lane, P c r → P c (ringWritten r lane)) {cs : List (Fin 4)} {s t : State}
    (h : feedRings cs s = .ok () t) (hs : ∀ c : Fin 4, P c s.rb[c]) : ∀ c : Fin 4, P c t.rb[c] := by
  induction cs generalizing s with
  | nil => cases h; exact hs
  | cons d cs ih =>
    rcases writeRing_cases d (laneOf s.c.lanes d.val) s with ⟨_, _, hw⟩ | ⟨_, hw⟩ <;>
      simp only [feedRings, hw] at h
    · cases h
    · refine ih h fun c => ?_
      by_cases hd : d.val = c.val
      · have hdc : d = c := Fin.ext hd
        subst hdc
        simpa using hP d _ _ (hs d)
      · simpa [Vector.getElem_set_ne _ _ hd] using hs c

/-- A ring put in place of another keeps what holds of every ring. -/
theorem withRing_keeps {P : Ring → Prop} {s : State} (c : Fin 4) {r : Ring} (hr : P r)
    (hs : ∀ c : Fin 4, P s.rb[c]) (d : Fin 4) : P (withRing c r s).rb[d] := by
  by_cases hd : c.val = d.val
  · have hcd : c = d := Fin.ext hd
    subst hcd
    simpa using hr
  · simpa [Vector.getElem_set_ne _ _ hd] using hs d

theorem MemoriesCanonical.same {s t : State} (h : SameData s t) (hs : MemoriesCanonical s) :
    MemoriesCanonical t := by
  unfold MemoriesCanonical
  rwa [h.seg, h.rb]

theorem CoreUpdate.memoriesCanonical {s t : State} (h : CoreUpdate s t) (hs : MemoriesCanonical s) :
    MemoriesCanonical t := by
  obtain ⟨hseg, hrings⟩ := id hs
  cases h with
  | depth samples =>
    obtain ⟨rb, hr, hrb⟩ := configureRings_frame (.ofNat 33 (samples + laneLen s.par))
      (channels s.par) (widthSet samples s)
    refine ⟨by simpa [depthSet, widthSet] using hseg, fun c => ?_⟩
    rw [depthSet, setHorizontal_rb, hr]
    dsimp only
    rw [hrb c]
    split
    · exact List.Pairwise.nil
    · exact hrings c
  | delay | level | poll => simpa [MemoriesCanonical, positionSet, levelSet] using hs
  | feed _ h =>
    refine ⟨?_, feedRings_keeps (P := fun _ r => Memory.wf r.mem)
      (fun _ _ lane hr => ringWritten_wf hr lane) h hrings⟩
    obtain ⟨_, rfl, -⟩ := feedRings_frame h
    exact hseg
  | store a b => exact ⟨Memory.write_wf hseg a b, hrings⟩
  | swap =>
    refine ⟨?_, hrings⟩
    rw [swapPublish_seg]
    exact Memory.writeBytes_wf hseg _ _
  | _ => exact hs

theorem DirectUpdate.memoriesCanonical {s t : State} (h : DirectUpdate s t)
    (hs : MemoriesCanonical s) : MemoriesCanonical t := by
  obtain ⟨hseg, hrings⟩ := id hs
  cases h with
  | core h => exact h.memoriesCanonical hs
  | configureRing cap c =>
    exact ⟨hseg, withRing_keeps (P := fun r => Memory.wf r.mem) c List.Pairwise.nil hrings⟩
  | writeRing c lane =>
    exact ⟨hseg,
      withRing_keeps (P := fun r => Memory.wf r.mem) c (ringWritten_wf (hrings c) lane) hrings⟩
  | vertical | horizontal => simpa [MemoriesCanonical] using hs
  | edge => exact hs
  | init =>
    rw [MemoriesCanonical, initBridge_rb, initBridge, publish_seg]
    exact ⟨Memory.writeBytes_wf List.Pairwise.nil _ _, hrings⟩
  | pollAndSwap due =>
    exact (CoreUpdate.swap due).memoriesCanonical (CoreUpdate.poll.memoriesCanonical hs)

/-- Settles O59, by cases on the update; the parameters are kept by every update. -/
theorem memoriesStayCanonical : Obligations.MemoriesStayCanonical :=
  ⟨fun _ _ hs h => step_keeps h (fun _ _ => .same) (fun _ _ _ hu => hu.memoriesCanonical) hs,
    fun _ _ => step_par⟩

end Sys2Proof.Machine
end

section
/-!
PROOFS. The header image (O5) and the values after reset (O45).
-/

namespace Sys2Proof.Machine

/-- Settles O5. -/
theorem headerImageRoundTrip : Obligations.HeaderImageRoundTrip :=
  fun h => ⟨headerBytes_length h, headerOfBytes_headerBytes h⟩

/-- The nudged level, as an integer (42_trigger_engine.md R173). -/
theorem nudge_toInt (level : Byte) {hyst : Byte} (h : hyst.toNat ≤ 127) :
    (nudge level hyst).toInt =
      if level.toInt = -128 then -128 + (hyst.toNat : Int)
      else if level.toInt = 127 then 127 - (hyst.toNat : Int)
      else level.toInt := by
  have toInt_ofInt {x : Int} (h₁ : -128 ≤ x) (h₂ : x < 128) : (BitVec.ofInt 8 x).toInt = x := by
    rw [BitVec.toInt_ofInt]
    exact Int.bmod_eq_of_le (by simpa using h₁) (by simpa using h₂)
  unfold nudge
  split
  · exact toInt_ofInt (by omega) (by omega)
  · split
    · exact toInt_ofInt (by omega) (by omega)
    · rfl

/-- Reset stores the header image and nothing else (70_reset_and_hazards.md R360). -/
theorem resetOf_read (p : Params) (a : Nat) :
    (State.resetOf p).seg.read? a = (headerBytes (State.resetOf p).bw.shadow)[a]? := by
  by_cases ha : a < hdrBytes
  · exact resetOf_read_header p ha
  · have hge : (headerBytes (State.resetOf p).bw.shadow).length ≤ a := by
      rw [headerBytes_length]
      exact Nat.le_of_not_lt ha
    have hout : ¬(0 ≤ a ∧ a < 0 + (headerBytes (initHeader p (cfgOfCfg0 p.cfg0))).length) := by
      rw [headerBytes_length, Nat.zero_add]
      exact fun h => ha h.2
    rw [resetOf_seg, Memory.read_writeBytes, if_neg hout, Memory.read_nil,
      List.getElem?_eq_none hge]

/-- The engine after reset is configured from `CFG0` (42_trigger_engine.md R172 to R176). -/
theorem resetTrg_configured {p : Params} (hd : ParamsInDomain p) :
    (resetTrg p).W.toNat = p.cfg0.W ∧ (resetTrg p).pos.toNat = p.cfg0.pos ∧
      (resetTrg p).add.toNat = p.cfg0.addHoldoff ∧
      (resetTrg p).captureSamples.toNat = p.cfg0.W - p.cfg0.pos ∧
      (resetTrg p).holdoffSamples.toNat = p.cfg0.pos + p.cfg0.addHoldoff ∧
      (resetTrg p).hyst.toNat = p.cfg0.hyst ∧
      (resetTrg p).level.toInt =
        (if p.cfg0.level = -128 then -128 + (p.cfg0.hyst : Int)
         else if p.cfg0.level = 127 then 127 - (p.cfg0.hyst : Int)
         else p.cfg0.level) := by
  obtain ⟨hW, hpos, hhyst, -⟩ := cfgOfCfg0_toNat hd
  obtain ⟨hcapture, hholdoff⟩ := resetTrg_samples hd
  have hadd : (cfgOfCfg0 p.cfg0).addHoldoff.toNat = p.cfg0.addHoldoff := Nat.mod_eq_of_lt hd.holdoff
  have hlevel : (cfgOfCfg0 p.cfg0).level.toInt = p.cfg0.level := by
    have hrange := hd.level
    change (BitVec.ofInt 8 p.cfg0.level).toInt = _
    rw [BitVec.toInt_ofInt]
    exact Int.bmod_eq_of_le (by simpa using hrange.1) (by simpa using Int.lt_add_one_of_le hrange.2)
  have hnudge := nudge_toInt (cfgOfCfg0 p.cfg0).level (hhyst.trans_le hd.hyst)
  rw [hW, hpos] at hcapture
  rw [hpos, hadd] at hholdoff
  rw [hlevel, hhyst] at hnudge
  exact ⟨hW, hpos, hadd, hcapture, hholdoff, hhyst, hnudge⟩

/-- Settles O45: the registers by definition, the engine from `resetTrg_configured` and the relations of
O46, the segment from `resetOf_read`. -/
theorem resetValues : Obligations.ResetValues := by
  rintro p s rfl
  refine ⟨rfl, fun c _ => by simp [State.resetOf, resetCap, ringConfigured], ⟨rfl, rfl, rfl⟩,
    fun hv => ?engine, ⟨rfl, rfl, rfl, rfl, rfl, rfl, rfl, rfl⟩, ⟨rfl, rfl, rfl, rfl⟩,
    ⟨rfl, rfl, rfl, rfl⟩, ⟨rfl, rfl, rfl⟩, ⟨rfl, rfl⟩, ⟨rfl, rfl⟩, resetOf_read p⟩
  case engine =>
    have hd := paramsInDomain_of_valid hv
    obtain ⟨hW, hpos, hadd, hcapture, hholdoff, hhyst, hlevel⟩ := resetTrg_configured hd
    obtain ⟨-, -, -, -, -, hlo, hhi, -, -, henR, henF⟩ := resetOf_engineCfgInv hd
    have hyst : ((State.resetOf p).trg.hyst.toNat : Int) = p.cfg0.hyst := congrArg Nat.cast hhyst
    rw [hyst] at hlo hhi
    exact ⟨hW, hpos, hadd, hcapture, hholdoff, hhyst, hlevel, hlo, hhi, henR, henF⟩

end Sys2Proof.Machine
end

section
/-!
PROOFS. The flags of 10_state.md R31 (O58): one inversion of a step for all eight of them, and one lemma per
flag.
-/

namespace Sys2Proof.Machine

/-! ### What a step does to the flags -/

/-- The flags of 10_state.md R31. -/
structure Flags where
  runMode : Bool
  forcePending : Bool
  delivered : Bool
  halted : Bool
  cancel : Bool
  filled : Bool
  reqPending : Bool
  latched : Bool

/-- The flags of a state. -/
def flagsOf (s : State) : Flags where
  runMode := s.c.runMode
  forcePending := s.c.forcePending
  delivered := s.c.delivered
  halted := s.c.halted
  cancel := s.c.cancel
  filled := s.bw.filled
  reqPending := s.bw.reqPending
  latched := s.br.latched

/-- What a step of the assembled core can do to the flags, and what it then was. -/
inductive FlagStep (s t : State) : Prop
  | keep (h : flagsOf t = flagsOf s)
  | run (cause : AtCommand .run s) (h : flagsOf t = { flagsOf s with runMode := true })
  | stop (cause : AtCommand .stop s) (h : flagsOf t = { flagsOf s with runMode := false })
  | force (cause : AtCommand .force s) (h : flagsOf t = { flagsOf s with forcePending := true })
  | forceDropped (cause : AtMicro .serviceForce s) (delivered : s.c.delivered = true)
      (h : flagsOf t = { flagsOf s with forcePending := false })
  | forceServed (cause : AtMicro .forceServed s) (runMode : Bool)
      (single : runMode = if s.cfg.mode = .single then false else s.c.runMode)
      (h : flagsOf t = { flagsOf s with runMode := runMode, forcePending := false })
  | singleDone (es : List (BitVec 32)) (cause : AtMicro (.endDelivered es) s)
      (single : s.cfg.mode = .single) (h : flagsOf t = { flagsOf s with runMode := false })
  | delivered (cause : AtMicro .markDelivered s) (h : flagsOf t = { flagsOf s with delivered := true })
  | fed (cause : nextTurn s = .ctl ∧ s.c.todo = [] ∧ s.c.phase = .feed)
      (h : flagsOf t = { flagsOf s with delivered := false })
  | regionFatal
      (cause : (∃ endOffset trig, AtMicro (.copyWindow endOffset trig) s) ∨
        (∃ c k b bytes, AtMicro (.storeBytes c k (b :: bytes)) s))
      (code : t.err.fatal = 0x81) (h : flagsOf t = { flagsOf s with halted := true })
  | ringFatal (cause : ∃ endOffset c, AtMicro (.readWindow endOffset c) s)
      (code : t.err.fatal = 0x80) (h : flagsOf t = { flagsOf s with halted := true })
  | cancelled (cause : nextTurn s = .hostCancel) (h : flagsOf t = { flagsOf s with cancel := true })
  | written (trig : Bool) (cause : AtMicro (.dataWritten trig) s)
      (h : flagsOf t = { flagsOf s with filled := true })
  | polled (cause : AtMicro .swapPoll s) (taken : s.semReq = t.semReq + 1)
      (h : flagsOf t = { flagsOf s with reqPending := true })
  | swapped (cause : AtMicro .swapPublish s) (due : s.bw.reqPending = true ∧ s.bw.filled = true)
      (counted : t.bw.swaps = s.bw.swaps + 1)
      (h : flagsOf t = { flagsOf s with filled := false, reqPending := false })
  | requested (cause : ∃ timeout, nextTurn s = .con (.requestAndWait timeout))
      (raised : s.br.latched = false → t.semReq = s.semReq + 1)
      (h : flagsOf t = { flagsOf s with latched := true })
  | satisfied (cause : nextTurn s = .conWait) (taken : s.semResp = t.semResp + 1)
      (h : flagsOf t = { flagsOf s with latched := false })
  | opened (cause : nextTurn s = .con .openBridge)
      (first : ¬(s.br.isOpen = true ∧ s.br.latched = true))
      (h : flagsOf t = { flagsOf s with latched := false })

section FlagStep

/- `s` is the state, `u` what is left of it once the turn is taken. -/
variable {s u t : State} {agenda : List Turn} {turnNo : Nat}
  (hu : u = { s with agenda := agenda, turnNo := turnNo })

include hu

theorem MicroStep.flagStep {m : Micro} {rest : List Micro} (hn : nextTurn s = .ctl)
    (ht : s.c.todo = m :: rest) (h : MicroStep (withTodo rest u) m t) : FlagStep s t := by
  subst hu
  have cause : AtMicro m s := ⟨hn, rest, ht⟩
  cases h with
  | singleDone es hm => exact .singleDone es cause hm rfl
  | forceDropped hd => exact .forceDropped cause hd rfl
  | forceServed runMode hr => exact .forceServed cause runMode hr rfl
  | noView endOffset trig => exact .regionFatal (.inl ⟨endOffset, trig, cause⟩) rfl rfl
  | noWindow endOffset c => exact .ringFatal ⟨endOffset, c, cause⟩ rfl rfl
  | notStored c k b bytes => exact .regionFatal (.inr ⟨c, k, b, bytes, cause⟩) rfl rfl
  | dataWritten trig => exact .written trig cause rfl
  | swapped due =>
    obtain ⟨hreq, hfilled⟩ := Bool.and_eq_true_iff.1 due
    exact .swapped cause ⟨hreq, hfilled⟩ rfl rfl
  | delivered => exact .delivered cause rfl
  | polled =>
    rcases swapPoll_cases (withTodo rest { s with agenda := agenda, turnNo := turnNo }) with
      ⟨_, hr⟩ | ⟨_, _, hr⟩ | ⟨_, hpos, hr⟩ <;> rw [hr]
    · exact .keep rfl
    · exact .keep rfl
    · exact .polled cause (Nat.sub_add_cancel hpos).symm rfl
  | scan _ hu => subst hu; exact .keep rfl
  | _ => exact .keep rfl

theorem exec_command_flagStep {i : Instr} {w : Word64} {q : List Word64} (hn : nextTurn s = .ctl)
    (hp : s.c.phase = .cmd) (ht : s.c.todo = []) (hq : s.cmdq = w :: q) (hd : decodeCmd w = some i)
    (h : exec i { u with cmdq := q } = .next t) : FlagStep s t := by
  subst hu
  have cause : AtCommand i s := ⟨hn, hp, ht, w, q, hq, hd⟩
  obtain ⟨hc, hbw, -, hbr, -⟩ := exec_commandFrame (isCommand_of_decodeCmd hd) h
  have hflags : flagsOf t =
      { flagsOf s with
        runMode := runModeAfter i s.c.runMode
        forcePending := forcePendingAfter i s.c.forcePending } := by
    simp only [flagsOf, hbr]
    rw [hc, hbw]
  cases i with
  | run => exact .run cause hflags
  | stop => exact .stop cause hflags
  | force => exact .force cause hflags
  | _ => exact .keep hflags

theorem PhaseStep.flagStep (hn : nextTurn s = .ctl) (ht : s.c.todo = [])
    (h : PhaseStep u s.c.phase t) : FlagStep s t := by
  generalize hp : s.c.phase = p at h
  cases h with
  | command w q i _ hq hd he =>
    exact exec_command_flagStep hu hn hp ht (by subst hu; exact hq) hd he
  | fed v t hv hf =>
    obtain ⟨_, rfl, -⟩ := feedRings_frame hf
    subst hv hu
    refine .fed ⟨hn, ht, hp⟩ ?_
    rcases demux_cases s.par.nch
      { s with agenda := agenda, turnNo := turnNo, c := { s.c with delivered := false } } with
      ⟨_, hr⟩ | ⟨_, hr⟩ <;> simp only [hr] <;> rfl
  | _ =>
    subst hu
    exact .keep rfl

theorem ctlStep_flagStep (hn : nextTurn s = .ctl) (h : ctlStep u = .next t) : FlagStep s t := by
  rcases ctlStep_cases u with
    ⟨_, hr⟩ | ⟨_, r, _, hr⟩ | ⟨_, _, m, rest, ht, hr⟩ | ⟨_, _, ht, hr⟩ <;> rw [hr] at h
  · cases h
    subst hu
    exact .keep rfl
  · cases h
    subst hu
    unfold rspWait
    split <;> exact .keep rfl
  · exact (runMicro_step h).flagStep hu hn (by subst hu; exact ht)
  · have hphase := runPhase_step h
    exact PhaseStep.flagStep hu hn (by subst hu; exact ht) (by subst hu; exact hphase)

theorem ReaderStep.flagStep {op : ReaderOp} (hn : nextTurn s = .con op)
    (hw : s.br.waiting = false) (h : ReaderStep (readerOperand op u) (readerInstr op) t) :
    FlagStep s t := by
  subst hu
  cases op with
  | openBridge =>
    cases h with
    | idle => exact .keep rfl
    | opened hfirst => exact .opened hn hfirst rfl
  | requestAndWait timeout =>
    cases h with
    | idle => exact .keep rfl
    | waited _ hw' => cases hw.symm.trans hw'
    | requested =>
      refine .requested ⟨timeout, hn⟩ (fun hl => ?_) rfl
      change (if s.br.latched then s.semReq else s.semReq + 1) = _
      rw [hl]
      rfl
  | readHeader => cases h <;> exact .keep rfl
  | readRegion =>
    cases h with
    | regionStarted =>
      rcases startRegionRead_cases { s with agenda := agenda, turnNo := turnNo } with
        ⟨_, _, hr⟩ | ⟨_, hr⟩ <;> exact .keep (by rw [readerOperand, hr]; rfl)
    | _ => exact .keep rfl

end FlagStep

/-- A region read, started or going on, moves no flag. -/
theorem flagsOf_regionRead {s t : State} (h : ReaderStep s .rdrReadRegion t) :
    flagsOf t = flagsOf s := by
  cases h with
  | regionStarted =>
    rcases startRegionRead_cases s with ⟨_, _, hr⟩ | ⟨_, hr⟩ <;> rw [hr] <;> rfl
  | _ => rfl

/-- Everything a step of the assembled core can do to the flags. -/
theorem step_flagStep {s t : State} (hnone : s.uop = none) (h : step s = .next t) :
    FlagStep s t := by
  obtain ⟨agenda, turnNo, hu⟩ := turnTaken_frame s
  have hturn := (step_turnStep hnone h).2
  generalize turnTaken s = u at hu hturn
  generalize hn : nextTurn s = turn at hturn
  have hflags : flagsOf u = flagsOf s := by
    subst hu
    rfl
  cases hturn with
  | ctl _ h => exact ctlStep_flagStep hu hn h
  | readerBusy => exact .keep hflags
  | readerIssues op _ hw _ h => exact h.flagStep hu hn (by subst hu; exact hw)
  | readerWaits =>
    rcases waitStep_cases u with ⟨hpos, hr⟩ | ⟨_, hr⟩ <;> rw [hr]
    · subst hu
      exact .satisfied hn (Nat.sub_add_cancel hpos).symm rfl
    · exact .keep hflags
  | readerReads _ h => exact .keep ((flagsOf_regionRead h).trans hflags)
  | cancelled =>
    subst hu
    exact .cancelled hn rfl
  | queued => exact .keep hflags

/-! ### Each flag on its own -/

/-- A flag goes from `b` to `b'`: up only by one cause, down only by the other. -/
def Flips (b b' : Bool) (up down : Prop) : Prop :=
  (b = false → b' = true → up) ∧ (b = true → b' = false → down)

theorem Flips.kept {b b' : Bool} {up down : Prop} (h : b' = b) : Flips b b' up down := by
  subst h
  constructor <;> intro h₁ h₂ <;> cases h₁.symm.trans h₂

theorem Flips.raised {b b' : Bool} {up down : Prop} (h : b' = true)
    (hup : b = false → up) : Flips b b' up down :=
  ⟨fun h₁ _ => hup h₁, fun _ h₂ => (by cases h.symm.trans h₂)⟩

theorem Flips.cleared {b b' : Bool} {up down : Prop} (h : b' = false)
    (hdown : b = true → down) : Flips b b' up down :=
  ⟨fun _ h₂ => (by cases h.symm.trans h₂), fun h₁ _ => hdown h₁⟩

section EachFlag

variable {s t : State} (h : FlagStep s t)

include h

theorem FlagStep.runMode :
    Flips s.c.runMode t.c.runMode (AtCommand .run s)
      (AtCommand .stop s ∨
        (s.cfg.mode = .single ∧
          ((∃ es, AtMicro (.endDelivered es) s) ∨ AtMicro .forceServed s))) := by
  cases h with
  | run cause h => exact .raised (congrArg Flags.runMode h) fun _ => cause
  | stop cause h => exact .cleared (congrArg Flags.runMode h) fun _ => .inl cause
  | singleDone es cause single h =>
    exact .cleared (congrArg Flags.runMode h) fun _ => .inr ⟨single, .inl ⟨es, cause⟩⟩
  | forceServed cause runMode single h =>
    have ht : t.c.runMode = runMode := congrArg Flags.runMode h
    split at single
    · rename_i hm
      exact .cleared (ht.trans single) fun _ => .inr ⟨hm, .inr cause⟩
    · exact .kept (ht.trans single)
  | _ => rename_i h; exact .kept (congrArg Flags.runMode h)

theorem FlagStep.forcePending :
    Flips s.c.forcePending t.c.forcePending (AtCommand .force s)
      ((AtMicro .serviceForce s ∧ s.c.delivered = true) ∨ AtMicro .forceServed s) := by
  cases h with
  | force cause h => exact .raised (congrArg Flags.forcePending h) fun _ => cause
  | forceDropped cause delivered h =>
    exact .cleared (congrArg Flags.forcePending h) fun _ => .inl ⟨cause, delivered⟩
  | forceServed cause _ _ h =>
    exact .cleared (congrArg Flags.forcePending h) fun _ => .inr cause
  | _ => rename_i h; exact .kept (congrArg Flags.forcePending h)

theorem FlagStep.deliveredFlag :
    Flips s.c.delivered t.c.delivered (AtMicro .markDelivered s)
      (nextTurn s = .ctl ∧ s.c.todo = [] ∧ s.c.phase = .feed) := by
  cases h with
  | delivered cause h => exact .raised (congrArg Flags.delivered h) fun _ => cause
  | fed cause h => exact .cleared (congrArg Flags.delivered h) fun _ => cause
  | _ => rename_i h; exact .kept (congrArg Flags.delivered h)

theorem FlagStep.halted :
    Flips s.c.halted t.c.halted
      ((((∃ endOffset trig, AtMicro (.copyWindow endOffset trig) s) ∨
          (∃ c k b bytes, AtMicro (.storeBytes c k (b :: bytes)) s)) ∧ t.err.fatal = 0x81) ∨
        ((∃ endOffset c, AtMicro (.readWindow endOffset c) s) ∧ t.err.fatal = 0x80))
      False := by
  cases h with
  | regionFatal cause code h =>
    exact .raised (congrArg Flags.halted h) fun _ => .inl ⟨cause, code⟩
  | ringFatal cause code h =>
    exact .raised (congrArg Flags.halted h) fun _ => .inr ⟨cause, code⟩
  | _ => rename_i h; exact .kept (congrArg Flags.halted h)

theorem FlagStep.cancel : Flips s.c.cancel t.c.cancel (nextTurn s = .hostCancel) False := by
  cases h with
  | cancelled cause h => exact .raised (congrArg Flags.cancel h) fun _ => cause
  | _ => rename_i h; exact .kept (congrArg Flags.cancel h)

theorem FlagStep.filled :
    Flips s.bw.filled t.bw.filled (∃ trig, AtMicro (.dataWritten trig) s)
      (AtMicro .swapPublish s ∧ s.bw.reqPending = true ∧ t.bw.swaps = s.bw.swaps + 1) := by
  cases h with
  | written trig cause h => exact .raised (congrArg Flags.filled h) fun _ => ⟨trig, cause⟩
  | swapped cause due counted h =>
    exact .cleared (congrArg Flags.filled h) fun _ => ⟨cause, due.1, counted⟩
  | _ => rename_i h; exact .kept (congrArg Flags.filled h)

theorem FlagStep.reqPending :
    Flips s.bw.reqPending t.bw.reqPending (AtMicro .swapPoll s ∧ s.semReq = t.semReq + 1)
      (AtMicro .swapPublish s ∧ s.bw.filled = true ∧ t.bw.swaps = s.bw.swaps + 1) := by
  cases h with
  | polled cause taken h => exact .raised (congrArg Flags.reqPending h) fun _ => ⟨cause, taken⟩
  | swapped cause due counted h =>
    exact .cleared (congrArg Flags.reqPending h) fun _ => ⟨cause, due.2, counted⟩
  | _ => rename_i h; exact .kept (congrArg Flags.reqPending h)

theorem FlagStep.latched :
    Flips s.br.latched t.br.latched
      ((∃ timeout, nextTurn s = .con (.requestAndWait timeout)) ∧ t.semReq = s.semReq + 1)
      ((nextTurn s = .conWait ∧ s.semResp = t.semResp + 1) ∨
        (nextTurn s = .con .openBridge ∧ s.br.isOpen = false)) := by
  cases h with
  | requested cause raised h =>
    exact .raised (congrArg Flags.latched h) fun hl => ⟨cause, raised hl⟩
  | satisfied cause taken h =>
    exact .cleared (congrArg Flags.latched h) fun _ => .inl ⟨cause, taken⟩
  | opened cause first h =>
    exact .cleared (congrArg Flags.latched h) fun hl =>
      .inr ⟨cause, Bool.eq_false_iff.2 fun ho => first ⟨ho, hl⟩⟩
  | _ => rename_i h; exact .kept (congrArg Flags.latched h)

end EachFlag

/-- A flag that nothing clears stays set. -/
theorem Flips.sticky {b b' : Bool} {up : Prop} (h : Flips b b' up False) (hb : b = true) :
    b' = true :=
  Bool.of_not_eq_false fun hb' => h.2 hb hb'

/-- Settles O58: flag by flag, from the one inversion `step_flagStep`. -/
theorem flagsAreSetOnlyByTheirOwners : Obligations.FlagsAreSetOnlyByTheirOwners := by
  intro s t hu h
  have hf := step_flagStep hu h
  exact ⟨hf.runMode, hf.forcePending, hf.deliveredFlag, ⟨hf.halted.1, hf.halted.sticky⟩,
    ⟨hf.cancel.1, hf.cancel.sticky⟩, hf.filled, hf.reqPending, hf.latched⟩

end Sys2Proof.Machine
end

section
/-!
PROOFS. The relations between the registers that the assembled core keeps and a direct issue may break: the
rings and the engine against `CFG`, the shadow header and the published one. With them, the data part of the
invariant of O47.
-/

namespace Sys2Proof.Machine

/-! ### The rings -/

/-- Every sample written stands in a cell the loop of `RB.WRITE` goes through (41_ring_buffer.md R153). -/
theorem mem_writeSamples {cap : Nat} {m : Memory} {k : Nat} {lane : List Byte} {cell : Host.Cell}
    (h : cell ∈ writeSamples cap m k lane) :
    (∃ j < lane.length, cell.1 = (k + j) % cap) ∨ cell ∈ m := by
  induction lane generalizing m k with
  | nil => exact .inr h
  | cons x xs ih =>
    rcases ih h with ⟨j, hj, hc⟩ | hm
    · refine .inl ⟨j + 1, by simpa using hj, ?_⟩
      rw [hc, Nat.add_assoc, Nat.add_comm 1 j]
    · rcases Memory.mem_write hm with rfl | hm
      · exact .inl ⟨0, by simp, rfl⟩
      · exact .inr hm

theorem Memory.isSome_read_write {m : Memory} {a a' : Nat} (b : Byte)
    (h : a' = a ∨ (m.read? a').isSome = true) : ((m.write a b).read? a').isSome = true := by
  rw [Memory.read_write]
  split
  · rfl
  · rename_i hne
    exact h.resolve_left hne

/-- A cell that the loop of `RB.WRITE` goes through, or that was written before, is written after. -/
theorem isSome_read_writeSamples {cap : Nat} {m : Memory} {k : Nat} {lane : List Byte} {a : Nat}
    (h : (∃ j < lane.length, (k + j) % cap = a) ∨ (m.read? a).isSome = true) :
    ((writeSamples cap m k lane).read? a).isSome = true := by
  induction lane generalizing m k with
  | nil => exact h.resolve_left fun ⟨_, hj, _⟩ => absurd hj (Nat.not_lt_zero _)
  | cons x xs ih =>
    refine ih ?_
    rcases h with ⟨j, hj, hc⟩ | hm
    · cases j with
      | zero => exact .inr (Memory.isSome_read_write x (.inl hc.symm))
      | succ j =>
        refine .inl ⟨j, by simpa using hj, ?_⟩
        rw [← hc, Nat.add_assoc, Nat.add_comm 1 j]
    · exact .inr (Memory.isSome_read_write x (.inr hm))

/-- `RB.WRITE` keeps a ring sound (41_ring_buffer.md R155): until the ring is full the cells from `filled` on
are written in order, and then the cursor goes round. -/
theorem ringInv_ringWritten {cap : Nat} {r : Ring} (lane : List Byte) (h : RingInv cap r) :
    RingInv cap (ringWritten r lane) := by
  obtain ⟨hcap, hwr, hfilled, hwf, hbelow, hwritten, hcursor⟩ := h
  have hwidth := r.cap.isLt
  have hwr' : (ringWritten r lane).wr.toNat = (r.wr.toNat + lane.length) % cap := by
    have hlt := Nat.mod_lt (r.wr.toNat + lane.length) (Nat.zero_lt_of_lt hwr)
    change (BitVec.ofNat 33 _).toNat = _
    rw [hcap, BitVec.toNat_ofNat, Nat.mod_eq_of_lt (by omega)]
  have hfilled' : (ringWritten r lane).filled.toNat = min cap (r.filled.toNat + lane.length) := by
    change (BitVec.ofNat 33 _).toNat = _
    rw [hcap, BitVec.toNat_ofNat, Nat.mod_eq_of_lt (by omega)]
  have hmem : (ringWritten r lane).mem = writeSamples cap r.mem r.wr.toNat lane := by
    rw [← hcap]
    rfl
  have hpos : 0 < cap := Nat.zero_lt_of_lt hwr
  have hcursor' (hroom : r.filled.toNat < cap) : r.wr.toNat = r.filled.toNat := by
    rw [hcursor (by rwa [hcap] at *)]
  refine ⟨hcap, hwr' ▸ Nat.mod_lt _ hpos, hfilled' ▸ Nat.min_le_left _ _, ringWritten_wf hwf lane,
    fun cell hcell => ?below, fun k hk => ?written, fun hroom => ?cursor⟩
  case below =>
    rw [hmem] at hcell
    rw [hfilled']
    rcases mem_writeSamples hcell with ⟨j, hj, hc⟩ | hold
    · have hlt := Nat.mod_lt (r.wr.toNat + j) hpos
      by_cases hfull : cap ≤ r.filled.toNat + lane.length
      · omega
      · have hstart := hcursor' (by omega)
        rw [hstart, Nat.mod_eq_of_lt (by omega)] at hc
        omega
    · have := hbelow cell hold
      omega
  case written =>
    rw [hfilled'] at hk
    rw [hmem]
    refine isSome_read_writeSamples ?_
    by_cases hnew : k < r.filled.toNat
    · exact .inr (hwritten k hnew)
    · have hstart := hcursor' (by omega)
      refine .inl ⟨k - r.filled.toNat, by omega, ?_⟩
      rw [hstart, Nat.mod_eq_of_lt (by omega)]
      omega
  case cursor =>
    rw [hfilled'] at hroom
    have hstart := hcursor' (by omega)
    apply BitVec.eq_of_toNat_eq
    rw [hwr', hfilled', hstart, Nat.mod_eq_of_lt (by omega)]
    omega

theorem RingsInv.same {s t : State} (h : SameData s t) (hs : RingsInv s) : RingsInv t := by
  unfold RingsInv
  rwa [h.par, h.cfg, h.rb]

theorem CoreUpdate.ringsInv {s t : State} (hv : s.par.valid = true) (h : CoreUpdate s t)
    (hs : RingsInv s) : RingsInv t := by
  have hd := paramsInDomain_of_valid hv
  cases h with
  | depth samples hmin hmax hpos =>
    intro c hc
    obtain ⟨rb, hr, hrb⟩ := configureRings_frame (.ofNat 33 (samples + laneLen s.par))
      (channels s.par) (widthSet samples s)
    have hpar : (depthSet samples s).par = s.par := by simp [depthSet, widthSet]
    have hW : (depthSet samples s).cfg.W.toNat = samples := by
      have hlt := hmax.trans_lt hd.maxw
      simp only [depthSet, setHorizontal_cfg, configureRings_cfg, widthSet, shadowProc_cfg]
      exact Nat.mod_eq_of_lt hlt
    have hring : (depthSet samples s).rb[c] = ringConfigured (.ofNat 33 (samples + laneLen s.par)) := by
      rw [hpar] at hc
      have hget : (depthSet samples s).rb[c] = rb[c] := by
        simp only [depthSet, setHorizontal_rb, hr]
      rw [hget, hrb c, if_pos ((mem_channels _ _).2 hc)]
    rw [hring, hW, hpar]
    have hlane := hd.lane
    have hmaxw := hd.maxw
    exact ringInv_ringConfigured (by omega) (by omega)
  | feed _ h =>
    have hkept := feedRings_keeps
      (P := fun c r => c.val < s.par.nch → RingInv (s.cfg.W.toNat + laneLen s.par) r)
      (fun _ _ lane hr hc => ringInv_ringWritten lane (hr hc)) h hs
    obtain ⟨_, rfl, -⟩ := feedRings_frame h
    exact hkept
  | delay | level | poll => simpa [RingsInv, positionSet, levelSet] using hs
  | _ => exact hs

/-! ### The engine is configured from `CFG` -/

theorem EngineCfgInv.same {s t : State} (h : SameData s t) (hs : EngineCfgInv s) :
    EngineCfgInv t := by
  unfold EngineCfgInv
  rwa [h.par, h.cfg, h.trg]

/-- An engine with the configuration registers of another is configured from `CFG` as that is. -/
theorem EngineCfgInv.of_config {s t : State} (h : SameTrgConfig s.trg t.trg) (hpar : t.par = s.par)
    (hcfg : t.cfg = s.cfg) (hs : EngineCfgInv s) : EngineCfgInv t := by
  obtain ⟨hlevel, hhyst, hlo, hhi, hr, hf, hW, hpos, hadd, hcapture, hholdoff⟩ := h
  unfold EngineCfgInv
  rwa [hpar, hcfg, hlevel, hhyst, hlo, hhi, hr, hf, hW, hpos, hadd, hcapture, hholdoff]

/-- `TRG.SET_HORIZONTAL` with the window and position of `CFG` (42_trigger_engine.md R174). -/
theorem EngineCfgInv.horizontal {s t : State} (hs : EngineCfgInv s) (hpar : t.par = s.par)
    (hcfg : t.cfg = { s.cfg with W := t.cfg.W, pos := t.cfg.pos })
    (hlt : t.cfg.pos.toNat < t.cfg.W.toNat)
    (htrg : t.trg = trgHorizontal s.trg t.cfg.W t.cfg.pos t.cfg.addHoldoff) : EngineCfgInv t := by
  obtain ⟨-, -, -, hhyst, hlevel, hlo, hhi, -, -, henR, henF⟩ := hs
  obtain ⟨hcapture, hholdoff⟩ := trgHorizontal_samples s.trg t.cfg.addHoldoff hlt
  have hcfghyst : t.cfg.hyst = s.cfg.hyst := by rw [hcfg]
  have hcfglevel : t.cfg.level = s.cfg.level := by rw [hcfg]
  have hcfgedge : t.cfg.edge = s.cfg.edge := by rw [hcfg]
  unfold EngineCfgInv
  rw [htrg, hcfghyst, hcfglevel, hcfgedge, hpar]
  exact ⟨rfl, rfl, rfl, hhyst, hlevel, hlo, hhi, hcapture, hholdoff, henR, henF⟩

theorem CoreUpdate.engineCfgInv {s t : State} (hv : s.par.valid = true) (hcfg : CfgInv s)
    (h : CoreUpdate s t) (hs : EngineCfgInv s) : EngineCfgInv t := by
  have hd := paramsInDomain_of_valid hv
  cases h with
  | depth samples hmin hmax hpos =>
    have hW : (BitVec.ofNat 32 samples).toNat = samples :=
      Nat.mod_eq_of_lt (hmax.trans_lt hd.maxw)
    have hlt : s.cfg.pos.toNat < (BitVec.ofNat 32 samples).toNat := by rwa [hW]
    rcases setHorizontal_cases (.ofNat 32 samples) s.cfg.pos s.cfg.addHoldoff
      (configureRings (.ofNat 33 (samples + laneLen s.par)) (channels s.par) (widthSet samples s)) with
      ⟨hbad, _⟩ | ⟨_, _, hr⟩
    · rcases hbad with hzero | hle
      · simp [hzero] at hlt
      · exact absurd hlt (Nat.not_lt.2 hle)
    · rw [depthSet, hr]
      refine hs.horizontal ?_ ?_ ?_ ?_ <;> simp only [configureRings_par, configureRings_cfg,
        configureRings_trg]
      · rfl
      · rfl
      · exact hlt
      · rfl
  | delay pos hpos =>
    have hp : (BitVec.ofNat 32 pos).toNat = pos := Nat.mod_eq_of_lt (hpos.trans s.cfg.W.isLt)
    have hlt : (BitVec.ofNat 32 pos).toNat < s.cfg.W.toNat := by rwa [hp]
    rcases setHorizontal_cases s.cfg.W (.ofNat 32 pos) s.cfg.addHoldoff
      (positionSet (.ofNat 32 pos) s) with ⟨hbad, _⟩ | ⟨_, _, hr⟩
    · rcases hbad with hzero | hle
      · simp [hzero] at hpos
      · exact absurd hlt (Nat.not_lt.2 hle)
    · rw [hr]
      exact hs.horizontal rfl rfl hlt rfl
  | level level =>
    obtain ⟨-, -, -, hhyst, -⟩ := hcfg
    obtain ⟨hW, hpos, hadd, -, -, -, -, hcapture, hholdoff, henR, henF⟩ := hs
    obtain ⟨hlo, hhi⟩ := trgVertical_armLevels s.trg level hhyst
    rcases setVertical_cases level s.cfg.hyst (levelSet level s) with ⟨hbad, _⟩ | ⟨_, hr⟩
    · exact absurd hhyst (Nat.not_le.2 hbad)
    · rw [hr]
      exact ⟨hW, hpos, hadd, rfl, rfl, hlo, hhi, hcapture, hholdoff, henR, henF⟩
  | type edge =>
    obtain ⟨hW, hpos, hadd, hhyst, hlevel, hlo, hhi, hcapture, hholdoff, -, -⟩ := hs
    have enables (b : Bool) : (if s.par.edgeGating then b else true) = (!s.par.edgeGating || b) := by
      cases s.par.edgeGating <;> rfl
    exact ⟨hW, hpos, hadd, hhyst, hlevel, hlo, hhi, hcapture, hholdoff, enables _, enables _⟩
  | feed _ h =>
    obtain ⟨_, rfl, -⟩ := feedRings_frame h
    exact hs
  | scan lane => exact hs.of_config (trgScan_config s.trg 0 lane) rfl rfl
  | poll => exact hs.of_config (by rw [swapPoll_trg]; exact .refl _) (swapPoll_par s) (swapPoll_cfg s)
  | _ => exact hs

/-! ### The shadow header and the published header -/

/-- `other` of a recognised selector is the other recognised one (00_scope.md R12). -/
theorem otherRegion_recognised {sel : Byte} (h : sel = 1 ∨ sel = 2) :
    otherRegion sel = 1 ∨ otherRegion sel = 2 := by
  rcases h with rfl | rfl
  exacts [.inr rfl, .inl rfl]

theorem ShadowInv.same {s t : State} (h : SameData s t) (hs : ShadowInv s) : ShadowInv t := by
  unfold ShadowInv
  rwa [h.par, h.cfg, h.bw]

theorem CoreUpdate.shadowInv {s t : State} (hv : s.par.valid = true) (h : CoreUpdate s t)
    (hs : ShadowInv s) : ShadowInv t := by
  obtain ⟨hfixed, hproc, hregion, htriggered⟩ := hs
  have hproc' : t.bw.shadow.proc = procImage t.par t.cfg := h.procFollows hv hproc
  unfold ShadowInv
  rw [h.par] at hproc' ⊢
  refine and_left_comm.1 ⟨hproc', ?_⟩
  cases h with
  | depth | delay | level =>
    simpa [depthSet, widthSet, positionSet, levelSet, HeaderFixed] using
      And.intro hfixed ⟨hregion, htriggered⟩
  | feed _ h =>
    obtain ⟨_, rfl, -⟩ := feedRings_frame h
    exact ⟨hfixed, hregion, htriggered⟩
  | written trig =>
    refine ⟨hfixed, hregion, ?_⟩
    cases trig
    exacts [.inl rfl, .inr rfl]
  | poll =>
    rcases swapPoll_cases s with ⟨_, hr⟩ | ⟨_, _, hr⟩ | ⟨_, _, hr⟩ <;> rw [hr] <;>
      exact ⟨hfixed, hregion, htriggered⟩
  | swap => exact ⟨hfixed, otherRegion_recognised hregion, htriggered⟩
  | _ => exact ⟨hfixed, hregion, htriggered⟩

/-- The header a consumer reads is settled by the first 72 bytes of the segment. -/
theorem publishedHeader_congr {s t : State} (h : ∀ a < hdrBytes, t.seg.read? a = s.seg.read? a) :
    publishedHeader t = publishedHeader s := by
  unfold publishedHeader Memory.readBytes
  congr 1
  refine List.map_congr_left fun a ha => ?_
  rw [Nat.zero_add]
  exact h a (List.mem_range.1 ha)

/-- After a publication a consumer reads the shadow header (45_bridge.md R288). -/
theorem headerOfBytes_publish (s : State) :
    headerOfBytes (publishedHeader (publish s)) = s.bw.shadow := by
  rw [publishedHeader_eq fun _ => publish_read s, headerOfBytes_headerBytes, publish_bw]

theorem PublishedInv.same {s t : State} (h : SameData s t) (hs : PublishedInv s) :
    PublishedInv t := by
  have hheader : publishedHeader t = publishedHeader s :=
    publishedHeader_congr fun _ _ => by rw [h.seg]
  unfold PublishedInv
  rwa [hheader, h.par, h.seg, h.bw]

/-- A byte stored beyond the header leaves the published header (20_memory.md R72). -/
theorem store_publishedInv {s : State} {a : Nat} (b : Byte) (hlow : hdrBytes ≤ a)
    (hhigh : a < segBytes s.par) (hs : PublishedInv s) :
    PublishedInv { s with seg := s.seg.write a b } := by
  have hread : ∀ a' < hdrBytes, (s.seg.write a b).read? a' = s.seg.read? a' := fun a' ha' =>
    Memory.read_write_ne _ _ (Nat.ne_of_lt (ha'.trans_le hlow))
  have hheader : publishedHeader { s with seg := s.seg.write a b } = publishedHeader s :=
    publishedHeader_congr hread
  obtain ⟨hwf, hbound, hwritten, hrest⟩ := hs
  unfold PublishedInv
  rw [hheader]
  refine ⟨Memory.write_wf hwf a b, fun cell hcell => ?_, fun a' ha' => ?_, hrest⟩
  · rcases Memory.mem_write hcell with rfl | hold
    exacts [hhigh, hbound cell hold]
  · rw [hread a' ha']
    exact hwritten a' ha'

theorem hdrBytes_le_segBytes (p : Params) : hdrBytes ≤ segBytes p := Nat.le_add_right _ _

/-- A publication of a sound shadow header, with the counts settled, is a sound segment (45_bridge.md
R290). -/
theorem publish_publishedInv {s : State} (hwf : Memory.wf s.seg)
    (hbound : ∀ cell ∈ s.seg, cell.1 < segBytes s.par) (hshadow : ShadowInv s)
    (hW : s.cfg.W.toNat ≤ s.par.maxw)
    (hcount : s.bw.shadow.totalAcquisitions =
      s.bw.shadow.droppedAcquisitions + .ofNat 64 s.bw.swaps) : PublishedInv (publish s) := by
  obtain ⟨hfixed, hproc, -, -⟩ := hshadow
  unfold PublishedInv
  rw [headerOfBytes_publish, publish_bw, publish_par, hproc]
  refine ⟨?_, fun cell hcell => ?_, fun a ha => ?_, hfixed, rfl, rfl, hW, hcount⟩
  · rw [publish_seg]
    exact Memory.writeBytes_wf hwf _ _
  · rw [publish_seg] at hcell
    rcases Memory.mem_writeBytes hcell with ⟨_, hlt⟩ | hold
    · rw [headerBytes_length, Nat.zero_add] at hlt
      exact hlt.trans_le (hdrBytes_le_segBytes s.par)
    · exact hbound cell hold
  · rw [publish_read s ha]
    simpa [headerBytes_length, hdrBytes] using ha

theorem CoreUpdate.publishedInv {s t : State} (h : CoreUpdate s t) (hcfg : CfgInv s)
    (hshadow : ShadowInv s) (hcount : CountInv s) (hs : PublishedInv s) : PublishedInv t := by
  cases h with
  | store a b hlow hhigh => exact store_publishedInv b hlow hhigh hs
  | swap due =>
    obtain ⟨hfixed, hproc, hregion, htriggered⟩ := hshadow
    obtain ⟨-, hmax, -⟩ := hcfg
    obtain ⟨hwf, hbound, -⟩ := hs
    have hnext := swapPublish_countInv due hcount
    refine publish_publishedInv hwf hbound
      ⟨hfixed, hproc, otherRegion_recognised hregion, htriggered⟩ hmax ?_
    exact hnext.trans (BitVec.add_zero _)
  | feed _ h =>
    obtain ⟨_, rfl, -⟩ := feedRings_frame h
    exact hs
  | poll =>
    rcases swapPoll_cases s with ⟨_, hr⟩ | ⟨_, _, hr⟩ | ⟨_, _, hr⟩ <;> rw [hr] <;> exact hs
  | depth | delay | level =>
    simpa [PublishedInv, publishedHeader, depthSet, widthSet, positionSet, levelSet] using hs
  | _ => exact hs

/-! ### The data part of the invariant -/

/-- What the invariant of the assembled core says of its data. -/
structure DataInv (s : State) : Prop where
  valid : s.par.valid = true
  cfg : CfgInv s
  rings : RingsInv s
  engine : EngineInv s.trg
  engineCfg : EngineCfgInv s
  shadow : ShadowInv s
  published : PublishedInv s
  count : CountInv s

theorem DataInv.same {s t : State} (h : SameData s t) (hs : DataInv s) : DataInv t where
  valid := h.par ▸ hs.valid
  cfg := hs.cfg.same h
  rings := hs.rings.same h
  engine := h.trg ▸ hs.engine
  engineCfg := hs.engineCfg.same h
  shadow := hs.shadow.same h
  published := hs.published.same h
  count := hs.count.same h

theorem CoreUpdate.dataInv {s t : State} (h : CoreUpdate s t) (hs : DataInv s) : DataInv t where
  valid := h.par ▸ hs.valid
  cfg := h.cfgInv hs.valid hs.cfg
  rings := h.ringsInv hs.valid hs.rings
  engine := h.engineInv hs.engine
  engineCfg := h.engineCfgInv hs.valid hs.cfg hs.engineCfg
  shadow := h.shadowInv hs.valid hs.shadow
  published := h.publishedInv hs.cfg hs.shadow hs.count hs.published
  count := h.countInv hs.count

/-- Every step of the assembled core keeps the data sound. -/
theorem step_dataInv {s t : State} (hu : s.uop = none) (h : step s = .next t) (hs : DataInv s) :
    DataInv t :=
  (step_coreUpdate hu h).keeps (fun _ _ => .same) (fun _ _ => CoreUpdate.dataInv) hs

end Sys2Proof.Machine
end

section
/-!
PROOFS. The handshake between the reader and the writer (45_bridge.md R310), part of the invariant of O47.
-/

namespace Sys2Proof.Machine

/-- The requests and responses under way between the reader and the writer (45_bridge.md R310). -/
def outstanding (s : State) : Nat :=
  s.semReq + s.bw.reqPending.toNat + s.semResp + releasesDue s

/-- A step that leaves the reader and what is under way keeps the handshake. -/
theorem HandshakeInv.of_outstanding {s t : State} (hbr : t.br = s.br)
    (ho : outstanding t = outstanding s) (hs : HandshakeInv s) : HandshakeInv t := by
  obtain ⟨hlatched, hrest⟩ := hs
  unfold HandshakeInv
  rw [hbr]
  exact ⟨hlatched.trans ho.symm, hrest⟩

/-- A `Deliver` begins with nothing to release. -/
@[simp] theorem count_deliverProg (endOffset : Nat) (trig : Bool) :
    (deliverProg endOffset trig).count .swapRelease = 0 := by
  simp [deliverProg, swapProg]

@[simp] theorem count_swapProg : swapProg.count .swapRelease = 0 := by simp [swapProg]

@[simp] theorem count_triggerBranch (mode : TrigMode) :
    (triggerBranch mode).count .swapRelease = 0 := by
  unfold triggerBranch
  split <;> simp

@[simp] theorem count_readWindows (endOffset : Nat) (cs : List (Fin 4)) :
    (cs.map (Micro.readWindow endOffset)).count .swapRelease = 0 := by
  simp [List.count_eq_zero]

/-- The releases due are counted on the work list. -/
theorem releasesDue_withTodo (todo : List Micro) (s : State) :
    releasesDue (withTodo todo s) = todo.count .swapRelease := rfl

/-- What a step of `CTL` leaves of the reader, of the direct issue and of what is under way; `released` is 1
for the release of a response that was due. -/
structure CtlFrame (released : Nat) (s t : State) : Prop where
  reader : t.br = s.br
  uop : t.uop = s.uop
  outstanding : outstanding t = outstanding s + released

theorem MicroStep.ctlFrame {m : Micro} {s t : State} (h : MicroStep s m t) :
    CtlFrame (if m = .swapRelease then 1 else 0) s t := by
  cases h with
  | released =>
    refine ⟨rfl, rfl, ?_⟩
    simp only [outstanding, swapRelease_semReq, swapRelease_bw, swapRelease_semResp, if_true,
      releasesDue, swapRelease_c]
    omega
  | polled =>
    refine ⟨by simp, by simp, ?_⟩
    rcases swapPoll_cases s with ⟨_, hr⟩ | ⟨_, _, hr⟩ | ⟨hreq, hpos, hr⟩ <;> rw [hr]
    · rfl
    · rfl
    · simp only [outstanding, releasesDue, hreq, Bool.toNat_true, Bool.toNat_false]
      simp
      omega
  | swapped due =>
    obtain ⟨hreq, _⟩ := Bool.and_eq_true_iff.1 due
    refine ⟨rfl, rfl, ?_⟩
    simp [outstanding, releasesDue, hreq]
    omega
  | scan u hu =>
    subst hu
    exact ⟨rfl, rfl, by simp [outstanding, releasesDue]⟩
  | _ => exact ⟨rfl, rfl, by simp [outstanding, releasesDue]⟩

theorem exec_command_ctlFrame {i : Instr} {s t : State} (hi : isCommand i = true)
    (h : exec i s = .next t) : CtlFrame 0 s t := by
  obtain ⟨hc, hbw, -, hbr, hreq, hresp, huop⟩ := exec_commandFrame hi h
  refine ⟨hbr, huop, ?_⟩
  unfold outstanding releasesDue
  rw [hc, hbw, hreq, hresp]
  rfl

theorem PhaseStep.ctlFrame {p : Phase} {s t : State} (ht : s.c.todo = []) (h : PhaseStep s p t) :
    CtlFrame 0 s t := by
  cases h with
  | command w q i _ _ hd he =>
    obtain ⟨hbr, huop, ho⟩ := exec_command_ctlFrame (isCommand_of_decodeCmd hd) he
    exact ⟨hbr, huop, ho⟩
  | fed u v hu hf =>
    obtain ⟨_, rfl, -⟩ := feedRings_frame hf
    subst hu
    rcases demux_cases s.par.nch { s with c := { s.c with delivered := false } } with
      ⟨_, hr⟩ | ⟨_, hr⟩ <;> simp only [hr] <;> exact ⟨rfl, rfl, rfl⟩
  | idleSwap | streaming | triggering | swapping =>
    exact ⟨rfl, rfl, by simp [outstanding, releasesDue, phaseSwap, ht]⟩
  | _ => exact ⟨rfl, rfl, rfl⟩

theorem ctlStep_ctlFrame {s t : State} (h : ctlStep s = .next t) : CtlFrame 0 s t := by
  rcases ctlStep_cases s with
    ⟨_, hr⟩ | ⟨_, r, _, hr⟩ | ⟨_, _, m, rest, ht, hr⟩ | ⟨_, _, ht, hr⟩ <;> rw [hr] at h
  · cases h
    exact ⟨rfl, rfl, rfl⟩
  · cases h
    unfold rspWait
    split <;> exact ⟨rfl, rfl, rfl⟩
  · obtain ⟨hbr, huop, ho⟩ := (runMicro_step h).ctlFrame
    refine ⟨hbr, huop, ho.trans ?_⟩
    simp only [outstanding, releasesDue_withTodo, withTodo_semReq, withTodo_bw, withTodo_semResp]
    simp only [releasesDue, ht, List.count_cons, beq_iff_eq]
    omega
  · exact (runPhase_step h).ctlFrame ht

/-- An operation of the reader that finds it inside no wait keeps the handshake. -/
theorem ReaderStep.handshakeInv {i : Instr} {s t : State} (h : ReaderStep s i t)
    (hw : i = .rdrRequestAndWait → s.br.waiting = false) (hs : HandshakeInv s) : HandshakeInv t := by
  obtain ⟨hlatched, hwindow, hwaiting, hopen⟩ := id hs
  cases h with
  | opened hfirst =>
    have hnone : s.br.latched = false :=
      Bool.eq_false_iff.2 fun hl => hfirst ⟨hopen hl, hl⟩
    have hidle : s.br.waiting = false :=
      Bool.eq_false_iff.2 fun hw => by cases hnone.symm.trans (hwaiting hw)
    rw [hnone] at hlatched
    exact ⟨hlatched, fun _ => ⟨rfl, rfl⟩, fun hw => absurd (hidle.symm.trans hw) nofun, nofun⟩
  | waited _ hw' => cases (hw rfl).symm.trans hw'
  | requested ho =>
    refine ⟨?_, nofun, fun _ => rfl, fun _ => ho⟩
    change 1 = (if s.br.latched then s.semReq else s.semReq + 1) + s.bw.reqPending.toNat +
      s.semResp + releasesDue s
    cases hl : s.br.latched <;> rw [hl] at hlatched
    · simp only [Bool.toNat_false] at hlatched
      simp only [Bool.false_eq_true, if_false]
      omega
    · exact hlatched
  | regionStarted =>
    rcases startRegionRead_cases s with ⟨_, _, hr⟩ | ⟨_, hr⟩ <;> rw [hr] <;> exact hs
  | _ => exact hs

/-- The wait step ends a request that was answered, and leaves one that was not (R300, R302). -/
theorem waitStep_handshakeInv {s : State} (hw : s.br.waiting = true) (hs : HandshakeInv s) :
    HandshakeInv (waitStep s) := by
  obtain ⟨hlatched, hwindow, hwaiting, hopen⟩ := hs
  have hl := hwaiting hw
  rcases waitStep_cases s with ⟨hpos, hr⟩ | ⟨_, hr⟩ <;> rw [hr]
  · refine ⟨?_, fun _ => ⟨rfl, hopen hl⟩, nofun, nofun⟩
    rw [hl, Bool.toNat_true] at hlatched
    change 0 = s.semReq + s.bw.reqPending.toNat + (s.semResp - 1) + releasesDue s
    omega
  · exact ⟨hlatched, hwindow, nofun, hopen⟩

/-- Every step of the assembled core keeps the handshake (45_bridge.md R310). -/
theorem step_handshakeInv {s t : State} (hu : s.uop = none) (h : step s = .next t)
    (hs : HandshakeInv s) : HandshakeInv t := by
  have hturn := (step_turnStep hu h).2
  have hu' : HandshakeInv (turnTaken s) := by
    obtain ⟨_, _, hr⟩ := turnTaken_frame s
    rw [hr]
    exact hs
  generalize turnTaken s = u at hturn hu'
  generalize nextTurn s = turn at hturn
  cases hturn with
  | ctl _ h =>
    obtain ⟨hbr, -, ho⟩ := ctlStep_ctlFrame h
    exact hu'.of_outstanding hbr ho
  | readerIssues op _ hw _ h =>
    cases op with
    | requestAndWait => exact h.handshakeInv (fun _ => hw) hu'
    | _ => exact h.handshakeInv nofun hu'
  | readerWaits hw => exact waitStep_handshakeInv hw hu'
  | readerReads _ h => exact h.handshakeInv nofun hu'
  | _ => exact hu'

end Sys2Proof.Machine
end

section
/-!
PROOFS. The region read of the consumer (45_bridge.md R306), part of the invariant of O47.
-/

namespace Sys2Proof.Machine

theorem leNat_lt (bs : List Byte) : leNat bs < 256 ^ bs.length := by
  induction bs with
  | nil => simp [leNat]
  | cons b bs ih =>
    have hb := b.isLt
    rw [leNat, List.length_cons, Nat.pow_succ]
    omega

/-- A field of a header fits its width (20_memory.md R75). -/
theorem headerField_lt (bs : List Byte) (offset n : Nat) : headerField bs offset n < 256 ^ n :=
  (leNat_lt _).trans_le (Nat.pow_le_pow_right (by decide) (List.length_take_le _ _))

/-- A consumer reads at most one region (45_bridge.md R306). -/
theorem regionReadSize_le {s : State} (hv : s.par.valid = true) (hp : PublishedInv s) :
    regionReadSize (publishedHeader s) ≤ regionBytes s.par := by
  obtain ⟨-, -, -, ⟨-, -, -, -, hdata, -⟩, -, hcount, hlength, -⟩ := hp
  have hnch := (paramsInDomain_of_valid hv).nch
  have field {offset v : Nat} (hv : v < 256)
      (h : BitVec.ofNat 8 (headerField (publishedHeader s) offset 1) = BitVec.ofNat 8 v) :
      headerField (publishedHeader s) offset 1 = v := by
    have hlt := headerField_lt (publishedHeader s) offset 1
    have hnat := congrArg BitVec.toNat h
    rw [BitVec.toNat_ofNat, BitVec.toNat_ofNat, Nat.mod_eq_of_lt (by simpa using hlt),
      Nat.mod_eq_of_lt hv] at hnat
    exact hnat
  have hcount' : headerField (publishedHeader s) 37 1 = s.par.nch := field (by omega) hcount
  have hdata' : headerField (publishedHeader s) 17 1 = width := field (by decide) hdata
  have hlength' : headerField (publishedHeader s) 38 4 ≤ s.par.maxw := by
    have hlt := headerField_lt (publishedHeader s) 38 4
    change (BitVec.ofNat 32 (headerField (publishedHeader s) 38 4)).toNat ≤ _ at hlength
    rwa [BitVec.toNat_ofNat, Nat.mod_eq_of_lt (by simpa using hlt)] at hlength
  have hmax : s.par.nch ≤ maxCh := by
    rcases hnch with h | h | h <;> rw [h] <;> decide
  unfold regionReadSize regionBytes
  rw [hcount', hdata']
  exact Nat.mul_le_mul_right _ (Nat.mul_le_mul hmax hlength')

/-- A region lies in the segment beyond the header (20_memory.md R72). -/
theorem regionBase_bounds {p : Params} {sel : Byte} {base : Nat} (h : regionBase p sel = some base) :
    hdrBytes ≤ base ∧ base + regionBytes p ≤ segBytes p := by
  unfold regionBase at h
  split at h
  · cases h
    exact ⟨le_refl _, by unfold segBytes; omega⟩
  · split at h <;> cases h
    exact ⟨Nat.le_add_right _ _, by unfold segBytes; omega⟩

theorem acquiredBase_bounds {p : Params} {sel : Byte} {base : Nat}
    (h : acquiredBase p sel = some base) : hdrBytes ≤ base ∧ base + regionBytes p ≤ segBytes p := by
  unfold acquiredBase at h
  split at h
  · exact regionBase_bounds h
  · cases h

/-- The rest of a read of `n` bytes from `a` on ends with them. -/
theorem regionCursor_bounds {a n : Nat} {r : RegionCursor} (h : regionCursor a n = some r) :
    r.addr = a ∧ r.more + 1 = n := by
  cases n with
  | zero => cases h
  | succ n => cases h; exact ⟨rfl, rfl⟩

/-- With no region read in progress nothing is asked of the reader. -/
theorem ReaderInv.of_not_reading {s : State} (h : s.br.reading = none) : ReaderInv s :=
  fun _ hr => by cases h.symm.trans hr

/-- An operation of the reader keeps its place (45_bridge.md R306). -/
theorem ReaderStep.readerInv {i : Instr} {s t : State} (h : ReaderStep s i t)
    (hidle : i ≠ .rdrReadRegion → s.br.reading = none) (hv : s.par.valid = true)
    (hp : PublishedInv s) (hs : ReaderInv s) : ReaderInv t := by
  cases h with
  | idle => exact hs
  | opened | requested | headerRead => exact .of_not_reading (hidle nofun)
  | waited =>
    have hreading := hidle nofun
    refine .of_not_reading ?_
    rcases waitStep_cases s with ⟨_, hr⟩ | ⟨_, hr⟩ <;> rw [hr] <;> exact hreading
  | regionStarted ho hw =>
    rcases startRegionRead_cases s with ⟨base, hbase, hr⟩ | ⟨_, hr⟩ <;> rw [hr]
    · intro r hcursor
      obtain ⟨hlow, hhigh⟩ := acquiredBase_bounds hbase
      obtain ⟨haddr, hmore⟩ := regionCursor_bounds hcursor
      have hsize := regionReadSize_le hv hp
      refine ⟨ho, hw, haddr ▸ hlow, ?_⟩
      change r.addr + r.more < segBytes s.par
      omega
    · exact hs
  | byteRead r hr =>
    intro r' hcursor
    obtain ⟨ho, hw, hlow, hhigh⟩ := hs r hr
    obtain ⟨haddr, hmore⟩ := regionCursor_bounds hcursor
    refine ⟨ho, hw, by omega, ?_⟩
    change r'.addr + r'.more < segBytes s.par
    omega

/-- Every step of the assembled core keeps the reader's place. -/
theorem step_readerInv {s t : State} (hu : s.uop = none) (h : step s = .next t)
    (hp : PublishedInv s) (hs : ReaderInv s) : ReaderInv t := by
  obtain ⟨hv, hturn⟩ := step_turnStep hu h
  obtain ⟨_, _, hr⟩ := turnTaken_frame s
  rw [hr] at hturn
  generalize nextTurn s = turn at hturn
  cases hturn with
  | ctl _ h =>
    obtain ⟨hbr, -, -⟩ := ctlStep_ctlFrame h
    have hpar := ((ctlStep_update h).mono fun _ _ => .core).par
    unfold ReaderInv
    rw [hbr, hpar]
    exact hs
  | readerIssues op _ _ hidle h =>
    cases op <;> exact h.readerInv (fun _ => hidle) hv hp hs
  | readerWaits hw =>
    have hidle : s.br.reading = none := by
      cases hreading : s.br.reading with
      | none => rfl
      | some r =>
        obtain ⟨-, hnot, -⟩ := hs r hreading
        cases hnot.symm.trans hw
    refine .of_not_reading ?_
    rw [← hr]
    rcases waitStep_cases (turnTaken s) with ⟨_, hr'⟩ | ⟨_, hr'⟩ <;> rw [hr', hr] <;> exact hidle
  | readerReads _ h => exact h.readerInv (absurd rfl) hv hp hs
  | _ => exact hs

end Sys2Proof.Machine
end

section
/-!
PROOFS. The sequencer's place (44_controller_sequencer.md R240), and the invariant of the assembled core (O47).
-/

namespace Sys2Proof.Machine

/-! ### The work list -/

/-- The ends of a scan that counts from `i` lie in the lane (42_trigger_engine.md R186). -/
theorem trgScan_ends_bounds {t : Trg} {i : Nat} {lane : List Byte} (hfit : i + lane.length < 2 ^ 32)
    {e : BitVec 32} (he : e ∈ (trgScan t i lane).2) : i < e.toNat ∧ e.toNat ≤ i + lane.length := by
  induction lane generalizing t i with
  | nil => cases he
  | cons x xs ih =>
    rw [List.length_cons] at hfit ⊢
    have later (h : e ∈ (trgScan (trgStep t x).1 (i + 1) xs).2) :
        i < e.toNat ∧ e.toNat ≤ i + (xs.length + 1) := by
      obtain ⟨hlow, hhigh⟩ := ih (by omega) h
      omega
    rw [trgScan_cons] at he
    dsimp only at he
    split at he
    · rcases List.mem_cons.1 he with rfl | he
      · rw [BitVec.toNat_ofNat, Nat.mod_eq_of_lt (by omega)]
        omega
      · exact later he
    · exact later he

/-- A lane holds at least one sample (00_scope.md R7). -/
theorem laneLen_pos {p : Params} (hv : p.valid = true) : 0 < laneLen p := by
  have hnch := (paramsInDomain_of_valid hv).nch
  simp only [Params.valid, Bool.and_eq_true, decide_eq_true_eq, beq_iff_eq] at hv
  obtain ⟨⟨⟨⟨⟨⟨⟨_, ⟨⟨hpos, hfour⟩, _⟩⟩, _⟩, _⟩, _⟩, _⟩, _⟩, _⟩ := hv
  unfold laneLen
  rcases hnch with h | h | h <;> rw [h] <;> omega

/-- A micro-step is sound by the parameters and the window width alone. -/
theorem MicroOk.congr {s t : State} {m : Micro} (hpar : t.par = s.par) (hW : t.cfg.W = s.cfg.W)
    (h : MicroOk s m) : MicroOk t m := by
  unfold MicroOk
  rwa [hpar, hW]

/-- Work that may be put on the list: every micro-step of it sound, and no scan among it. -/
def WorkOk (s : State) (work : List Micro) : Prop := (∀ m ∈ work, MicroOk s m) ∧ .scan ∉ work

theorem WorkOk.nil (s : State) : WorkOk s [] := ⟨nofun, nofun⟩

theorem WorkOk.cons {s : State} {m : Micro} {work : List Micro} (hm : MicroOk s m)
    (hscan : m ≠ .scan) (h : WorkOk s work) : WorkOk s (m :: work) :=
  ⟨List.forall_mem_cons.2 ⟨hm, h.1⟩, List.not_mem_cons_of_ne_of_not_mem hscan.symm h.2⟩

theorem WorkOk.single {s : State} {m : Micro} (hm : MicroOk s m) (hscan : m ≠ .scan) :
    WorkOk s [m] := .cons hm hscan (.nil s)

theorem WorkOk.append {s : State} {work work' : List Micro} (h : WorkOk s work)
    (h' : WorkOk s work') : WorkOk s (work ++ work') :=
  ⟨List.forall_mem_append.2 ⟨h.1, h'.1⟩, fun hm => (List.mem_append.1 hm).elim h.2 h'.2⟩

theorem swapProg_ok (s : State) : WorkOk s swapProg := .cons trivial nofun (.single trivial nofun)

/-- A `Deliver` of a window that ends inside the lane (44_controller_sequencer.md R250, R251). -/
theorem deliverProg_ok {s : State} {endOffset : Nat} (trig : Bool) (h : endOffset < laneLen s.par) :
    WorkOk s (deliverProg endOffset trig) :=
  .cons h nofun ((swapProg_ok s).append (.single trivial nofun))

/-- What a step of `CTL` leaves of the sequencer's place: `work` is put before what is left to do, the lanes
and the response held stay, `P_TRIG` is not entered, and nothing halts. What is so by definition needs no
proof. -/
structure WorkDone (s t : State) : Prop where
  work : ∃ work, t.c.todo = work ++ s.c.todo ∧ WorkOk s work
  lanes : t.c.lanes = s.c.lanes := by rfl
  held : t.c.rspHold = s.c.rspHold := by rfl
  phase : t.c.phase = s.c.phase ∨ t.c.phase ≠ .trig := by exact .inl rfl
  halted : t.c.halted = s.c.halted := by rfl
  fatal : t.err.fatal = s.err.fatal := by rfl
  par : t.par = s.par := by rfl
  width : t.cfg.W = s.cfg.W := by rfl

/-- The scan's lane is one of the block's. -/
theorem laneOf_length {lanes : List (List Byte)} {n len c : Nat} (hn : lanes.length = n) (hc : c < n)
    (hlen : ∀ l ∈ lanes, l.length = len) : (laneOf lanes c).length = len := by
  have hlt : c < lanes.length := hn ▸ hc
  rw [laneOf, List.getD_eq_getElem _ _ hlt]
  exact hlen _ (List.getElem_mem hlt)

theorem MicroStep.workDone {m : Micro} {s t : State} (h : MicroStep s m t) (hd : DataInv s)
    (hm : MicroOk s m)
    (hlanes : m = .scan → s.c.lanes.length = s.par.nch ∧ ∀ l ∈ s.c.lanes, l.length = laneLen s.par) :
    WorkDone s t := by
  have hpos := laneLen_pos hd.valid
  obtain ⟨-, -, -, -, hsrc⟩ := hd.cfg
  obtain ⟨-, -, hregion, -⟩ := hd.shadow
  cases h with
  | goto p =>
    refine { work := ⟨[], rfl, .nil s⟩, phase := .inr ?_ }
    rcases hm with rfl | rfl <;> nofun
  | scan u hu =>
    subst hu
    obtain ⟨hn, hlen⟩ := hlanes rfl
    have hlane : (laneOf s.c.lanes (srcChannel s.cfg).val).length = laneLen s.par :=
      laneOf_length hn hsrc hlen
    have hfit := (paramsInDomain_of_valid hd.valid).lane
    refine { work := ⟨[_], rfl, .single (fun e he => ?_) nofun⟩ }
    obtain ⟨b, hb, rfl⟩ := List.mem_map.1 he
    have hbounds := trgScan_ends_bounds (t := s.trg) (i := 0) (e := b)
      (by rw [Nat.zero_add, hlane]; exact hfit) hb
    rw [Nat.zero_add, hlane] at hbounds
    exact hbounds
  | nextEnd e es =>
    obtain ⟨⟨hlow, hhigh⟩, hes⟩ := List.forall_mem_cons.1 hm
    exact { work := ⟨deliverProg (laneLen s.par - e.toNat) true ++ [.endDelivered es], by simp,
      (deliverProg_ok true (by omega)).append (.single (m := .endDelivered es) hes nofun)⟩ }
  | moreEnds es => exact { work := ⟨[_], rfl, .single hm nofun⟩ }
  | forceStarted =>
    exact { work := ⟨deliverProg 0 false ++ [.forceServed], by simp,
      (deliverProg_ok false hpos).append (.single (m := .forceServed) trivial nofun)⟩ }
  | timedOut n => exact { work := ⟨_, rfl, deliverProg_ok false hpos⟩ }
  | streamDue =>
    exact { work := ⟨deliverProg 0 false ++ [.streamTaken], by simp,
      (deliverProg_ok false hpos).append (.single (m := .streamTaken) trivial nofun)⟩ }
  | streamTaken | swapped => exact { work := ⟨[_], rfl, .single trivial nofun⟩ }
  | viewed endOffset trig =>
    refine { work := ⟨(channels s.par).map (.readWindow endOffset) ++ [.dataWritten trig], by simp,
      .append ⟨fun m hmem => ?_, by simp⟩ (.single (m := .dataWritten trig) trivial nofun)⟩ }
    obtain ⟨c, hc, rfl⟩ := List.mem_map.1 hmem
    exact ⟨(mem_channels _ _).1 hc, hm⟩
  | noView endOffset trig hsel => exact absurd hregion (not_or.2 hsel)
  | windowRead endOffset c d hlen =>
    refine { work := ⟨[_], rfl, .single ⟨hm.1, ?_⟩ nofun⟩ }
    rw [Nat.zero_add, hlen]
  | noWindow endOffset c hcap =>
    obtain ⟨hcapacity, -⟩ := hd.rings c hm.1
    have hend := hm.2
    omega
  | stored c k b bs =>
    refine { work := ⟨[_], rfl, .single ⟨hm.1, ?_⟩ nofun⟩ }
    have hend := hm.2
    rw [List.length_cons] at hend
    omega
  | notStored c k b bs hsel =>
    rcases hregion with h | h <;> simp [regionBase, h] at hsel
  | polled =>
    rcases swapPoll_cases s with ⟨_, hr⟩ | ⟨_, _, hr⟩ | ⟨_, _, hr⟩ <;> rw [hr] <;>
      exact { work := ⟨[], rfl, .nil s⟩ }
  | _ => exact { work := ⟨[], rfl, .nil s⟩ }

/-- A micro-step taken off the list, and what it put there, leave the sequencer in a sound place. -/
theorem WorkDone.sequencerInv {m : Micro} {rest : List Micro} {s t : State}
    (h : WorkDone (withTodo rest s) t) (ht : s.c.todo = m :: rest) (hr : s.c.rspHold = none)
    (hs : SequencerInv s) : SequencerInv t := by
  obtain ⟨hok, hlanes, -⟩ := hs
  obtain ⟨work, htodo, hwork, hscan⟩ := h.work
  have htodo' : t.c.todo = work ++ rest := htodo
  have hin {x : Micro} (hx : x ∈ rest) : x ∈ s.c.todo := ht ▸ List.mem_cons_of_mem m hx
  have hheld : t.c.rspHold = none := h.held.trans hr
  refine ⟨fun x hx => ?_, fun hwhen => ?_, fun hne => absurd hheld hne⟩
  · rw [htodo'] at hx
    rcases List.mem_append.1 hx with hx | hx
    · exact (hwork x hx).congr h.par h.width
    · exact (hok x (hin hx)).congr h.par h.width
  · have hlanes' : t.c.lanes = s.c.lanes := h.lanes
    have hpar' : t.par = s.par := h.par
    rw [hlanes', hpar']
    refine hlanes (hwhen.imp (fun hp => ?_) fun hx => ?_)
    · have hphase : t.c.phase = s.c.phase := h.phase.resolve_right (not_not.2 hp)
      exact hphase.symm.trans hp
    · rw [htodo'] at hx
      exact hin ((List.mem_append.1 hx).resolve_left hscan)

/-- A place with no scan ahead and no response held asks only that the work to do be sound. -/
theorem SequencerInv.of_work {s : State} (hwork : WorkOk s s.c.todo) (hphase : s.c.phase ≠ .trig)
    (hheld : s.c.rspHold = none) : SequencerInv s :=
  ⟨hwork.1, fun h => (h.elim hphase hwork.2).elim, fun h => absurd hheld h⟩

/-- The lanes of a block: `n` of them, each of its share of the samples (40_demux.md R141). -/
theorem demuxLanes_lengths (block : List Byte) (n : Nat) :
    (demuxLanes block n).length = n ∧ ∀ l ∈ demuxLanes block n, l.length = block.length / n := by
  refine ⟨by simp [demuxLanes], fun l hl => ?_⟩
  obtain ⟨k, -, rfl⟩ := List.mem_map.1 hl
  simp

theorem triggerBranch_ok (s : State) (mode : TrigMode) : ∀ m ∈ triggerBranch mode, MicroOk s m := by
  unfold triggerBranch
  split <;> simp [MicroOk]

/-- The step of a phase leaves the sequencer in a sound place (44_controller_sequencer.md R241 to R260). -/
theorem PhaseStep.sequencerInv {s t : State} (h : PhaseStep s s.c.phase t) (ht : s.c.todo = [])
    (hr : s.c.rspHold = none) (hv : s.par.valid = true) (hs : SequencerInv s) : SequencerInv t := by
  have hnone : WorkOk s s.c.todo := ht ▸ .nil s
  generalize hp : s.c.phase = p at h
  cases h with
  | checked q hq =>
    refine .of_work hnone ?_ hr
    rcases hq with rfl | rfl <;> nofun
  | drained | blockTaken | idle | stopped => exact .of_work hnone nofun hr
  | command w q i _ _ hd he =>
    obtain ⟨hc, -⟩ := exec_commandFrame (isCommand_of_decodeCmd hd) he
    have htodo : t.c.todo = [] := by rw [hc]; exact ht
    have hphase : t.c.phase = .cmd := by rw [hc]; exact hp
    refine ⟨fun m hm => ?_, fun hwhen => ?_, fun _ => ⟨hphase, htodo⟩⟩
    · rw [htodo] at hm
      cases hm
    · rw [hphase, htodo] at hwhen
      rcases hwhen with h | h <;> cases h
  | unknown => exact .of_work hnone (by rw [raiseConfigError_c, hp]; nofun) hr
  | idleSwap =>
    exact .of_work ((swapProg_ok s).append (.single (m := .goto .check) (.inr rfl) nofun))
      (by rw [withTodo_c, hp]; nofun) hr
  | fed u v hu hf =>
    obtain ⟨_, rfl, -⟩ := feedRings_frame hf
    have hnch := (paramsInDomain_of_valid hv).nch
    subst hu
    rcases demux_cases s.par.nch { s with c := { s.c with delivered := false } } with
      ⟨_, hr'⟩ | ⟨hbad, _⟩
    · obtain ⟨hn, hlen⟩ := demuxLanes_lengths
        (fillFree s.free (blkCells { s with c := { s.c with delivered := false } })) s.par.nch
      simp only [hr']
      refine ⟨fun m hm => ?_, fun _ => ⟨hn, fun l hl => (hlen l hl).trans ?_⟩, fun h => absurd hr h⟩
      · have hm' : m ∈ s.c.todo := hm
        rw [ht] at hm'
        cases hm'
      · simp [blkCells, laneLen]
    · exact absurd hnch hbad
  | streaming n =>
    obtain ⟨-, hlanes, -⟩ := hs
    exact ⟨by simp [MicroOk], fun _ => hlanes (.inl hp), fun h => absurd hr h⟩
  | triggering =>
    obtain ⟨-, hlanes, -⟩ := hs
    exact ⟨triggerBranch_ok _ _, fun _ => hlanes (.inl hp), fun h => absurd hr h⟩
  | returned => exact .of_work hnone nofun hr
  | swapping =>
    exact .of_work ((swapProg_ok s).append (.single (m := .goto .check) (.inr rfl) nofun))
      (by rw [phaseSwap, withTodo_c, hp]; nofun) hr
  | exited => exact hs

/-- No phase halts (60_exceptions.md R330: only a `Deliver` raises a Fatal). -/
theorem PhaseStep.running {p : Phase} {s t : State} (h : PhaseStep s p t) :
    t.c.halted = s.c.halted ∧ t.err.fatal = s.err.fatal := by
  cases h with
  | command _ _ _ _ _ hd he =>
    obtain ⟨hc, -, hfatal, -⟩ := exec_commandFrame (isCommand_of_decodeCmd hd) he
    exact ⟨by rw [hc], hfatal⟩
  | fed u v hu hf =>
    obtain ⟨_, rfl, -⟩ := feedRings_frame hf
    subst hu
    rcases demux_cases s.par.nch { s with c := { s.c with delivered := false } } with
      ⟨_, hr⟩ | ⟨_, hr⟩ <;> simp only [hr] <;> exact ⟨rfl, rfl⟩
  | _ => exact ⟨rfl, rfl⟩

/-- A step of `CTL` leaves the sequencer in a sound place, and raises no Fatal (44_controller_sequencer.md
R262). -/
theorem ctlStep_place {s t : State} (h : ctlStep s = .next t) (hd : DataInv s)
    (hs : SequencerInv s) :
    SequencerInv t ∧ t.c.halted = s.c.halted ∧ t.err.fatal = s.err.fatal := by
  obtain ⟨hok, hlanes, hheld⟩ := id hs
  rcases ctlStep_cases s with
    ⟨_, hr⟩ | ⟨_, r, _, hr⟩ | ⟨_, hnone, m, rest, ht, hr⟩ | ⟨_, hnone, ht, hr⟩ <;> rw [hr] at h
  · cases h
    exact ⟨hs, rfl, rfl⟩
  · cases h
    unfold rspWait
    split
    · exact ⟨⟨hok, hlanes, fun h => absurd rfl h⟩, rfl, rfl⟩
    · exact ⟨hs, rfl, rfl⟩
  · have hmem : m ∈ s.c.todo := ht ▸ List.mem_cons_self
    have hdone := (runMicro_step h).workDone (hd.same (.withTodo rest s))
      ((hok m hmem).congr rfl rfl) fun hscan => hlanes (.inr (hscan ▸ hmem))
    exact ⟨hdone.sequencerInv ht hnone hs, hdone.halted, hdone.fatal⟩
  · have hphase := runPhase_step h
    exact ⟨hphase.sequencerInv ht hnone hd.valid hs, hphase.running⟩

/-- An operation of the reader leaves the controller, the error log and the direct issue. -/
theorem ReaderStep.frame {i : Instr} {s t : State} (h : ReaderStep s i t) :
    t.c = s.c ∧ t.err = s.err ∧ t.uop = s.uop := by
  cases h with
  | waited => simp
  | regionStarted =>
    rcases startRegionRead_cases s with ⟨_, _, hr⟩ | ⟨_, hr⟩ <;> rw [hr] <;> exact ⟨rfl, rfl, rfl⟩
  | _ => exact ⟨rfl, rfl, rfl⟩

theorem SequencerInv.congr {s t : State} (hc : t.c = s.c) (h : SameData s t) (hs : SequencerInv s) :
    SequencerInv t := by
  obtain ⟨hok, hlanes, hheld⟩ := hs
  unfold SequencerInv
  rw [hc, h.par]
  exact ⟨fun m hm => (hok m hm).congr h.par (by rw [h.cfg]), hlanes, hheld⟩

/-- A turn leaves the sequencer in a sound place, raises no Fatal and presents nothing for direct issue. -/
theorem TurnStep.place {turn : Turn} {s t : State} (h : TurnStep s turn t) (hd : DataInv s)
    (hs : SequencerInv s) :
    SequencerInv t ∧ t.c.halted = s.c.halted ∧ t.err.fatal = s.err.fatal ∧ t.uop = s.uop := by
  have kept (hc : t.c = s.c) (herr : t.err = s.err) (huop : t.uop = s.uop) (hsame : SameData s t) :
      SequencerInv t ∧ t.c.halted = s.c.halted ∧ t.err.fatal = s.err.fatal ∧ t.uop = s.uop :=
    ⟨hs.congr hc hsame, by rw [hc], by rw [herr], huop⟩
  cases h with
  | ctl _ h =>
    obtain ⟨hplace, hhalted, hfatal⟩ := ctlStep_place h hd hs
    exact ⟨hplace, hhalted, hfatal, (ctlStep_ctlFrame h).uop⟩
  | readerIssues op _ _ _ h =>
    obtain ⟨hc, herr, huop⟩ := h.frame
    have hsame := (SameData.readerOperand op s).trans h.same
    cases op <;> exact kept hc herr huop hsame
  | readerWaits => exact kept (waitStep_c s) (waitStep_err s) (waitStep_uop s) (.waitStep s)
  | readerReads _ h =>
    obtain ⟨hc, herr, huop⟩ := h.frame
    exact kept hc herr huop h.same
  | readerBusy | queued => exact kept rfl rfl rfl {}
  | cancelled => exact ⟨hs, rfl, rfl, rfl⟩

/-- Every step of the assembled core leaves the sequencer in a sound place, raises no Fatal and presents
nothing for direct issue. -/
theorem step_place {s t : State} (hu : s.uop = none) (h : step s = .next t) (hd : DataInv s)
    (hs : SequencerInv s) :
    SequencerInv t ∧ t.c.halted = s.c.halted ∧ t.err.fatal = s.err.fatal ∧ t.uop = s.uop := by
  obtain ⟨_, _, hr⟩ := turnTaken_frame s
  have hc : (turnTaken s).c = s.c := by rw [hr]
  have herr : (turnTaken s).err = s.err := by rw [hr]
  have huop : (turnTaken s).uop = s.uop := by rw [hr]
  rw [← hc, ← herr, ← huop]
  exact (step_turnStep hu h).2.place (hd.same (.turnTaken s)) (hs.congr hc (.turnTaken s))

/-! ### The invariant -/

/-- Settles O47: the data by cases on the update, the handshake, the reader and the sequencer each by cases
on the turn. -/
theorem invariantIsKept : Obligations.InvariantIsKept := by
  intro s t hs h
  obtain ⟨hv, hu, hhalted, hfatal, hcfg, hrings, hengine, hengineCfg, hshadow, hpublished, hcount,
    hhandshake, hreader, hsequencer⟩ := hs
  have hd : DataInv s :=
    ⟨hv, hcfg, hrings, hengine, hengineCfg, hshadow, hpublished, hcount⟩
  have hd' := step_dataInv hu h hd
  obtain ⟨hplace, hhalted', hfatal', huop'⟩ := step_place hu h hd hsequencer
  exact ⟨hd'.valid, huop'.trans hu, hhalted'.trans hhalted, hfatal'.trans hfatal, hd'.cfg, hd'.rings,
    hd'.engine, hd'.engineCfg, hd'.shadow, hd'.published, hd'.count,
    step_handshakeInv hu h hhandshake, step_readerInv hu h hpublished hreader, hplace⟩

end Sys2Proof.Machine
end

section
/-!
PROOFS. The encoding (30_encoding.md): the command decoder is the table (O3), decoding and encoding invert
each other (O1, O2), words the spec writes out (O4), and the step that runs what an encoded operation decodes
to (O6, O8).
-/

namespace Sys2Proof.Machine

/-! ### Command words: an opcode byte and a 56-bit operand (30_encoding.md R111) -/

/-- Two command words are equal exactly when their opcodes and their operands are. -/
theorem cmdWord_inj {op op' : Byte} {v v' : BitVec 56} :
    cmdWord op v = cmdWord op' v' ↔ op = op' ∧ v = v' := by
  refine ⟨fun h => ⟨?_, ?_⟩, fun ⟨hop, hv⟩ => by rw [hop, hv]⟩
  · simpa only [cmdWord, BitVec.extractLsb'_append_eq_left] using congrArg (·.extractLsb' 56 8) h
  · simpa only [cmdWord, BitVec.extractLsb'_append_eq_right] using congrArg (·.extractLsb' 0 56) h

/-- Every word is its opcode byte followed by its operand. -/
theorem cmdWord_extract (w : Word64) : cmdWord (w.extractLsb' 56 8) (w.extractLsb' 0 56) = w :=
  BitVec.extractLsb'_append_extractLsb' (w := 8) (len := 56)

/-- A mask of the whole opcode byte leaves the opcode and masks the operand. -/
theorem cmdWord_and_opcode (op : Byte) (v mask : BitVec 56) :
    cmdWord op v &&& cmdWord 0xFF mask = cmdWord op (v &&& mask) := by
  rw [cmdWord, cmdWord, BitVec.and_append]
  exact congrArg (cmdWord · _) (Laws.and_ones op)

/-- An operand field that starts at bit 0 is the operand, cut to the width of the field. -/
theorem extract_cmdWord (op : Byte) (v : BitVec 56) {n : Nat} (h : n ≤ 56) :
    (cmdWord op v).extractLsb' 0 n = BitVec.ofNat n v.toNat := by
  rw [cmdWord, BitVec.extractLsb'_append_eq_of_add_le (by omega)]
  rfl

/-- No bit from bit `n` on is set exactly when the operand is below `2 ^ n`. -/
theorem and_high_eq_zero {w : Nat} (v : BitVec w) (n : Nat) :
    v &&& (BitVec.allOnes w <<< n) = 0 ↔ v.toNat < 2 ^ n := by
  constructor
  · intro h
    refine Nat.lt_pow_two_of_testBit _ fun i hi => ?_
    have hbit := congrArg (·.getLsbD i) h
    rcases Nat.lt_or_ge i w with hlt | hge
    · simpa [hi.not_gt, hlt, Nat.sub_lt_of_lt hlt, BitVec.testBit_toNat] using hbit
    · exact v.getLsbD_of_ge i hge
  · intro h
    refine BitVec.eq_of_getLsbD_eq fun i hi => ?_
    rcases Nat.lt_or_ge i n with hlow | hhigh
    · simp [hlow]
    · have hbit : v.getLsbD i = false :=
        Nat.testBit_lt_two_pow (h.trans_le (Nat.pow_le_pow_right (by decide) hhigh))
      simp [hbit]

/-! ### The rows of the table, by opcode and width of the operand (30_encoding.md R114, R116) -/

/-- What a row of the command table says: its opcode, the width of its operand field, and the command of an
operand of that width. -/
structure CmdFormat where
  opcode : Byte
  bits : Nat
  build : BitVec bits → Instr
  fits : bits ≤ 56 := by decide

/-- The row of a format: the mask keeps the opcode and every bit above the operand field, which is 0. -/
def CmdFormat.row (f : CmdFormat) : CmdRow where
  value := cmdWord f.opcode 0
  mask := cmdWord 0xFF (BitVec.allOnes 56 <<< f.bits)
  build w := f.build (w.extractLsb' 0 f.bits)

/-- The formats of the eleven commands. -/
def cmdFormats : List CmdFormat :=
  [ { opcode := 0x01, bits := 0, build := fun _ => .run },
    { opcode := 0x02, bits := 0, build := fun _ => .stop },
    { opcode := 0x03, bits := 0, build := fun _ => .force },
    { opcode := 0x04, bits := 2, build := fun v => .setMode (modeOfCode v) },
    { opcode := 0x05, bits := 32, build := fun v => .setDepth v.toNat },
    { opcode := 0x06, bits := 56, build := fun v => .setRate v.toNat },
    { opcode := 0x07, bits := 8, build := fun v => .setSrc v.toNat },
    { opcode := 0x08, bits := 56, build := fun v => .setDelay v.toNat },
    { opcode := 0x09, bits := 32, build := fun v => .setLevel v.toInt },
    { opcode := 0x0A, bits := 1, build := fun v => .setType (edgeOfCode v) },
    { opcode := 0x0B, bits := 0, build := fun _ => .getRate } ]

/-- The command table is the table of these formats. -/
theorem cmdRows_eq_map_row : cmdRows = cmdFormats.map CmdFormat.row := rfl

/-- The opcodes are 1 to 11, in order. -/
theorem cmdFormats_opcodes :
    cmdFormats.map (·.opcode.toNat) = [1, 2, 3, 4, 5, 6, 7, 8, 9, 10, 11] := rfl

/-- No opcode stands in two rows. -/
theorem cmdFormats_opcodes_nodup : (cmdFormats.map CmdFormat.opcode).Nodup := by decide

/-- A row matches a word exactly when the opcode is the row's and the operand fits the row's field. -/
theorem CmdFormat.row_matches (f : CmdFormat) (op : Byte) (v : BitVec 56) :
    cmdWord op v &&& f.row.mask = f.row.value ↔ f.opcode = op ∧ v.toNat < 2 ^ f.bits := by
  rw [CmdFormat.row, cmdWord_and_opcode, cmdWord_inj, and_high_eq_zero, eq_comm (a := op)]

/-- What a row makes of a word is built from the operand, cut to the row's field. -/
theorem CmdFormat.row_build (f : CmdFormat) (op : Byte) (v : BitVec 56) :
    f.row.build (cmdWord op v) = f.build (BitVec.ofNat f.bits v.toNat) :=
  congrArg f.build (extract_cmdWord op v f.fits)

/-- Two rows of different opcodes match no word together. -/
theorem CmdFormat.row_disjoint {f g : CmdFormat} (h : f.opcode ≠ g.opcode) (w : Word64) :
    ¬(w &&& f.row.mask = f.row.value ∧ w &&& g.row.mask = g.row.value) := by
  rw [← cmdWord_extract w, f.row_matches, g.row_matches]
  rintro ⟨⟨hf, _⟩, hg, _⟩
  exact h (hf.trans hg.symm)

/-! ### The decoder is the table (30_encoding.md R119) -/

/-- The decoder looks for the format of the opcode whose field holds the operand. -/
theorem decodeCmd_eq_find (op : Byte) (v : BitVec 56) :
    decodeCmd (cmdWord op v) =
      (cmdFormats.find? fun f => decide (f.opcode = op ∧ v.toNat < 2 ^ f.bits)).map fun f =>
        f.build (BitVec.ofNat f.bits v.toNat) := by
  have matched : (fun r : CmdRow => cmdWord op v &&& r.mask == r.value) ∘ CmdFormat.row =
      fun f => decide (f.opcode = op ∧ v.toNat < 2 ^ f.bits) :=
    funext fun f => decide_eq_decide.2 (f.row_matches op v)
  have built : (fun r : CmdRow => r.build (cmdWord op v)) ∘ CmdFormat.row =
      fun f => f.build (BitVec.ofNat f.bits v.toNat) :=
    funext fun f => f.row_build op v
  rw [decodeCmd, cmdRows_eq_map_row, List.find?_map, Option.map_map, matched, built]

/-- The command `i` is what some format makes of an opcode and an operand: the opcode is the format's, and the
operand fits its field. -/
def HasFormat (op : Byte) (v : BitVec 56) (i : Instr) : Prop :=
  ∃ f ∈ cmdFormats, f.opcode = op ∧ v.toNat < 2 ^ f.bits ∧ f.build (BitVec.ofNat f.bits v.toNat) = i

/-- A word decodes to the command of the one format it has; there is one only, since the opcodes differ. -/
theorem decodeCmd_eq_some_iff {op : Byte} {v : BitVec 56} {i : Instr} :
    decodeCmd (cmdWord op v) = some i ↔ HasFormat op v i := by
  rw [decodeCmd_eq_find, Option.map_eq_some_iff]
  constructor
  · rintro ⟨f, hfind, hbuild⟩
    have hmatch : f.opcode = op ∧ v.toNat < 2 ^ f.bits := by simpa using List.find?_some hfind
    exact ⟨f, List.mem_of_find?_eq_some hfind, hmatch.1, hmatch.2, hbuild⟩
  · rintro ⟨f, hf, hop, hv, hbuild⟩
    cases hfind : cmdFormats.find? fun g => decide (g.opcode = op ∧ v.toNat < 2 ^ g.bits) with
    | none => exact absurd (decide_eq_true ⟨hop, hv⟩) (List.find?_eq_none.1 hfind f hf)
    | some g =>
      have hmatch : g.opcode = op ∧ v.toNat < 2 ^ g.bits := by simpa using List.find?_some hfind
      obtain rfl : g = f :=
        List.inj_on_of_nodup_map cmdFormats_opcodes_nodup (List.mem_of_find?_eq_some hfind) hf
          (hmatch.1.trans hop.symm)
      exact ⟨g, rfl, hbuild⟩

/-- The 2-bit field of `SET_MODE` holds the position of the mode in the table's list (R115). -/
theorem mode_getElem? (n : Nat) :
    ([.normal, .single, .auto, .stream] : List TrigMode)[n]? =
      if n < 4 then some (modeOfCode (BitVec.ofNat 2 n)) else none := by
  match n with
  | 0 | 1 | 2 | 3 => rfl
  | n + 4 => simp

/-- The 1-bit field of `SET_TYPE` holds the position of the edge in the table's list (R115). -/
theorem edge_getElem? (n : Nat) :
    ([.rising, .falling] : List Edge)[n]? =
      if n < 2 then some (edgeOfCode (BitVec.ofNat 1 n)) else none := by
  match n with
  | 0 | 1 => rfl
  | n + 2 => simp

/-- The table has the commands of the formats. -/
theorem tableCommand_of_format {f : CmdFormat} (hf : f ∈ cmdFormats) (v : BitVec 56) :
    tableCommand f.opcode.toNat v.toNat =
      if v.toNat < 2 ^ f.bits then some (f.build (BitVec.ofNat f.bits v.toNat)) else none := by
  revert f
  simp only [cmdFormats, List.forall_mem_cons]
  refine ⟨?run, ?stop, ?force, ?setMode, ?setDepth, ?setRate, ?setSrc, ?setDelay, ?setLevel, ?setType,
    ?getRate, nofun⟩
  case setMode => simp [tableCommand, mode_getElem?, apply_ite]
  case setType => simp [tableCommand, edge_getElem?, apply_ite]
  case setRate | setDelay => simp [tableCommand, v.isLt]
  case setDepth | setSrc =>
    exact if_ctx_congr .rfl (fun hv => by rw [BitVec.toNat_ofNat, Nat.mod_eq_of_lt hv]) fun _ => rfl
  all_goals simp [tableCommand]

/-- The table has no other opcode. -/
theorem tableCommand_eq_none {opcode : Nat} (operand : Nat)
    (h : opcode ∉ cmdFormats.map (·.opcode.toNat)) : tableCommand opcode operand = none := by
  rw [cmdFormats_opcodes] at h
  unfold tableCommand
  split
  case h_12 => rfl
  all_goals exact absurd (by decide) h

/-- The table and the formats have the same commands. -/
theorem tableCommand_eq_some_iff {op : Byte} {v : BitVec 56} {i : Instr} :
    tableCommand op.toNat v.toNat = some i ↔ HasFormat op v i := by
  constructor
  · intro h
    by_cases hop : op.toNat ∈ cmdFormats.map (·.opcode.toNat)
    · obtain ⟨f, hf, hop⟩ := List.mem_map.1 hop
      obtain rfl := BitVec.eq_of_toNat_eq hop
      rw [tableCommand_of_format hf, Option.ite_none_right_eq_some, Option.some_inj] at h
      exact ⟨f, hf, rfl, h⟩
    · rw [tableCommand_eq_none _ hop] at h
      cases h
  · rintro ⟨f, hf, rfl, hv, hbuild⟩
    rw [tableCommand_of_format hf, if_pos hv, hbuild]

/-- The decoder is the table on every word. -/
theorem decodeCmd_eq_tableCommand (w : Word64) :
    decodeCmd w = tableCommand (w.extractLsb' 56 8).toNat (w.extractLsb' 0 56).toNat := by
  refine Option.ext fun i => ?_
  conv_lhs => rw [← cmdWord_extract w]
  exact decodeCmd_eq_some_iff.trans tableCommand_eq_some_iff.symm

/-- Settles O3: decoder and table agree row by row, and the rows differ in their opcodes. -/
theorem commandDecoderIsTheTable : Obligations.CommandDecoderIsTheTable := by
  refine ⟨decodeCmd_eq_tableCommand, ?_⟩
  rw [cmdRows_eq_map_row, List.pairwise_map]
  exact (List.pairwise_map.1 cmdFormats_opcodes_nodup).imp CmdFormat.row_disjoint

/-! ### Decoding and encoding invert each other (30_encoding.md R111 to R118) -/

/-- A command built by a format is well-formed and encodes to the format's opcode with its operand. -/
theorem CmdFormat.encode_build {f : CmdFormat} (hf : f ∈ cmdFormats) (x : BitVec f.bits) :
    (f.build x).wellFormed = true ∧ encode (f.build x) = .cmd (cmdWord f.opcode (x.setWidth 56)) := by
  revert f
  simp only [cmdFormats, List.forall_mem_cons]
  refine ⟨?run, ?stop, ?force, ?setMode, ?setDepth, ?setRate, ?setSrc, ?setDelay, ?setLevel, ?setType,
    ?getRate, nofun⟩
  case setDepth | setRate | setSrc | setDelay =>
    intro x
    simp [Instr.wellFormed, encode, x.isLt]
  case setLevel =>
    intro x
    simpa [Instr.wellFormed, encode] using And.intro x.le_toInt x.toInt_lt
  all_goals decide

/-- Every well-formed host command is built by a format. -/
theorem exists_format_of_isCommand {i : Instr} (hi : isCommand i = true) (h : i.wellFormed = true) :
    ∃ f ∈ cmdFormats, ∃ x, f.build x = i := by
  have operand {n bits : Nat} (hn : decide (n < 2 ^ bits) = true) : (BitVec.ofNat bits n).toNat = n :=
    Nat.mod_eq_of_lt (of_decide_eq_true hn)
  cases i with
  | run => exact ⟨cmdFormats[0], List.getElem_mem _, 0, rfl⟩
  | stop => exact ⟨cmdFormats[1], List.getElem_mem _, 0, rfl⟩
  | force => exact ⟨cmdFormats[2], List.getElem_mem _, 0, rfl⟩
  | setMode mode =>
    exact ⟨cmdFormats[3], List.getElem_mem _, .ofNat 2 (modeCode mode), by cases mode <;> rfl⟩
  | setDepth samples =>
    exact ⟨cmdFormats[4], List.getElem_mem _, .ofNat 32 samples, congrArg _ (operand h)⟩
  | setRate samplingHz =>
    exact ⟨cmdFormats[5], List.getElem_mem _, .ofNat 56 samplingHz, congrArg _ (operand h)⟩
  | setSrc channel =>
    exact ⟨cmdFormats[6], List.getElem_mem _, .ofNat 8 channel, congrArg _ (operand h)⟩
  | setDelay femtoseconds =>
    exact ⟨cmdFormats[7], List.getElem_mem _, .ofNat 56 femtoseconds, congrArg _ (operand h)⟩
  | setLevel microvolts =>
    obtain ⟨hlow, hhigh⟩ := (Bool.and_eq_true_iff.1 h).imp of_decide_eq_true of_decide_eq_true
    exact ⟨cmdFormats[8], List.getElem_mem _, .ofInt 32 microvolts,
      congrArg _ (BitVec.toInt_ofInt_eq_self (by decide) hlow hhigh)⟩
  | setType edge =>
    exact ⟨cmdFormats[9], List.getElem_mem _, .ofNat 1 (edgeCode edge), by cases edge <;> rfl⟩
  | getRate => exact ⟨cmdFormats[10], List.getElem_mem _, 0, rfl⟩
  | _ => cases hi

/-- A word built by a format decodes to the command the format builds. -/
theorem CmdFormat.decodeCmd_setWidth {f : CmdFormat} (hf : f ∈ cmdFormats) (x : BitVec f.bits) :
    decodeCmd (cmdWord f.opcode (x.setWidth 56)) = some (f.build x) := by
  have hx : (x.setWidth 56).toNat = x.toNat := BitVec.toNat_setWidth_of_le f.fits
  refine decodeCmd_eq_some_iff.2 ⟨f, hf, rfl, ?_, ?_⟩
  · rw [hx]
    exact x.isLt
  · rw [hx, BitVec.ofNat_toNat, BitVec.setWidth_eq]

/-- The rows of the select table say what each unit operation encodes to. -/
theorem encode_of_mem_uopRows :
    ∀ r ∈ uopRows, r.2.wellFormed = true ∧ encode r.2 = .uop r.1 := by decide

/-- Every unit operation decodes from its own select. -/
theorem decode_encode_of_not_isCommand {i : Instr} (h : isCommand i = false) :
    decode (encode i) = some i := by
  cases i with
  | dmxDemux | rbConfigure | rbWrite | rbRead => rfl
  | trgSetVertical | trgSetHorizontal | trgSetEdge | trgReset | trgProcess => rfl
  | brgInit | brgAcqRegion | brgDataWritten | brgSwitchIfNeeded => rfl
  | rdrOpen | rdrRequestAndWait | rdrReadHeader | rdrReadRegion => rfl
  | _ => cases h

/-- Settles O1: a command goes through its format, a unit operation through its select. -/
theorem decodeInvertsEncode : Obligations.DecodeInvertsEncode := by
  intro i hwf
  cases hi : isCommand i with
  | false => exact decode_encode_of_not_isCommand hi
  | true =>
    obtain ⟨f, hf, x, rfl⟩ := exists_format_of_isCommand hi hwf
    rw [(CmdFormat.encode_build hf x).2]
    exact CmdFormat.decodeCmd_setWidth hf x

/-- What a command word decodes to is well-formed and encodes to that word. -/
theorem encode_of_decodeCmd {op : Byte} {v : BitVec 56} {i : Instr}
    (h : decodeCmd (cmdWord op v) = some i) :
    i.wellFormed = true ∧ encode i = .cmd (cmdWord op v) := by
  obtain ⟨f, hf, rfl, hv, rfl⟩ := decodeCmd_eq_some_iff.1 h
  have kept : (BitVec.ofNat f.bits v.toNat).setWidth 56 = v := by
    apply BitVec.eq_of_toNat_eq
    rw [BitVec.toNat_setWidth_of_le f.fits, BitVec.toNat_ofNat, Nat.mod_eq_of_lt hv]
  have built := CmdFormat.encode_build hf (BitVec.ofNat f.bits v.toNat)
  rwa [kept] at built

/-- What a select decodes to is well-formed and encodes to that select. -/
theorem encode_of_decodeUop {w : Select} {i : Instr} (h : decodeUop w = some i) :
    i.wellFormed = true ∧ encode i = .uop w := by
  obtain ⟨r, hfind, rfl⟩ := Option.map_eq_some_iff.1 h
  obtain rfl : r.1 = w := by simpa using List.find?_some hfind
  exact encode_of_mem_uopRows r (List.mem_of_find?_eq_some hfind)

/-- Settles O2: a word goes through the format it has, a select through its row. -/
theorem encodeInvertsDecode : Obligations.EncodeInvertsDecode := by
  intro x i h
  cases x with
  | uop w => exact encode_of_decodeUop h
  | cmd w =>
    rw [← cmdWord_extract w] at h ⊢
    exact encode_of_decodeCmd h

/-- Settles O4, each word by evaluation of the decoder. -/
theorem specWordsDecode : Obligations.SpecWordsDecode := by
  unfold Obligations.SpecWordsDecode
  decide

/-! ### A step runs the decoded operation (43_controller_commands.md R210, 30_encoding.md R113) -/

/-- A turn of `CTL` with no work left over takes the step of its phase. -/
theorem step_phase {s : State} {rest : List Turn} (h : CtlTurn s rest) (ht : s.c.todo = []) :
    step s = runPhase { s with agenda := rest } := by
  obtain ⟨hv, hu, ha, hc, hr⟩ := h
  rw [step_ctl hv hu ha]
  simp [ctlStep, hc, hr, ht]

/-- A turn of `CTL` in `P_CMD` is a step of the drain. -/
theorem step_drain {s : State} {rest : List Turn} (h : CtlTurn s rest) (ht : s.c.todo = [])
    (hp : s.c.phase = .cmd) : step s = phaseCmd { s with agenda := rest } := by
  rw [step_phase h ht]
  simp [runPhase, hp]

/-- The drain runs the command at the head of the queue. -/
theorem phaseCmd_of_decodes {s : State} {w : Word64} {q : List Word64} {i : Instr}
    (hq : s.cmdq = w :: q) (hd : decodeCmd w = some i) : phaseCmd s = exec i { s with cmdq := q } := by
  simp [phaseCmd, hq, hd]

/-- The drain ends on an empty queue. -/
theorem phaseCmd_of_empty {s : State} (hq : s.cmdq = []) : phaseCmd s = .next (gotoPhase .wait s) := by
  simp [phaseCmd, hq]

/-- Settles O6: the turn is a step of the drain, which runs the head of the queue or finds it empty. -/
theorem stepRunsHeadCommand : Obligations.StepRunsHeadCommand := by
  intro s rest hturn ht hp
  have hdrain := step_drain hturn ht hp
  exact ⟨fun _ _ _ hq hd => hdrain.trans (phaseCmd_of_decodes hq hd),
    fun hq => hdrain.trans (phaseCmd_of_empty hq)⟩

/-- A select presented at the unit-operation interface is the next thing the machine looks at. -/
theorem step_presented {s : State} {w : Select} (hv : s.par.valid = true) (hu : s.uop = some w) :
    step s = uopStep w s := by
  simp [step, nextStep, hv, hu]

/-- A select of a row runs its operation when the operation's step is enabled, and else waits. -/
theorem uopStep_of_decodes {s : State} {w : Select} {i : Instr} (hd : decodeUop w = some i) :
    uopStep w s = if uopEnabled i s then exec i { s with uop := none } else .next s := by
  simp [uopStep, hd]

/-- A select of no row is refused. -/
theorem uopStep_of_no_row {s : State} {w : Select} (hd : decodeUop w = none) :
    uopStep w s = .refused (.badSelect w) := by
  simp [uopStep, hd]

/-- Settles O8: the presented select is looked at first, and by the decoder and `uopEnabled` alone. -/
theorem stepRunsPresentedSelect : Obligations.StepRunsPresentedSelect := by
  intro s w hv hu
  rw [step_presented hv hu]
  refine ⟨fun i hd he => ?_, fun i hd he => ?_, uopStep_of_no_row⟩
  · rw [uopStep_of_decodes hd, if_pos he]
  · rw [uopStep_of_decodes hd, he, if_neg Bool.false_ne_true]

end Sys2Proof.Machine
end

section
/-!
PROOFS. The Lane Demultiplexer (40_demux.md): where each byte of a block goes, and that every byte goes
somewhere exactly once (O21).
-/

namespace Sys2Proof.Machine

/-! ### The bytes the demultiplexer reads (20_memory.md R70) -/

@[simp] theorem blkCells_length (s : State) : (blkCells s).length = s.par.blockBytes := by
  simp [blkCells]

/-- Of a held block every cell of the space `BLK` has a value. -/
theorem blkCells_of_held {s : State} {block : List Byte} (hb : s.c.blk = some block)
    (hlen : block.length = s.par.blockBytes) : blkCells s = block.map some := by
  apply List.ext_getElem
  · simp [hlen]
  · intro a _ ha
    rw [List.length_map] at ha
    simp [blkCells, hb, ha]

/-- Cells that all have values take no free value. -/
theorem fillFree_map_some (n : Nat) (bytes : List Byte) : fillFree n (bytes.map some) = bytes := by
  apply List.ext_getElem?
  intro a
  rw [fillFree_getElem?]
  simp [Function.comp_def]

/-! ### The lanes of a block (40_demux.md R141, R142) -/

/-- Lane `k` of `n`: its share of the samples, sample `j` being byte `j * n + k`. -/
theorem exists_lane_of_lt (block : List Byte) {n k : Nat} (hk : k < n) :
    ∃ lane, (demuxLanes block n)[k]? = some lane ∧ lane.length = block.length / n ∧
      ∀ j < block.length / n, lane[j]? = block[j * n + k]? := by
  refine ⟨(List.range (block.length / n)).map fun j => block.getD (j * n + k) 0, ?_, ?_, ?_⟩
  · simp [demuxLanes, hk]
  · simp
  · intro j hj
    have hbyte : j * n + k < block.length :=
      calc j * n + k < (j + 1) * n := by rw [Nat.succ_mul]; omega
        _ ≤ block.length / n * n := Nat.mul_le_mul_right n hj
        _ ≤ block.length := Nat.div_mul_le_self _ _
    simp [hj, hbyte]

/-- The bytes of a block read at its positions in order are the block. -/
theorem map_getD_range_length (block : List Byte) :
    (List.range block.length).map (fun a => block.getD a 0) = block := by
  apply List.ext_getElem
  · simp
  · intro a _ ha
    simp [ha]

/-- The positions `j * n + k`, lane after lane, are the positions below `m * n`, each once: one more
sample per lane adds the next `n` positions. -/
theorem perm_range_of_lanes (n m : Nat) :
    ((List.range n).flatMap fun k => (List.range m).map fun j => j * n + k).Perm
      (List.range (m * n)) := by
  induction m with
  | zero => simp
  | succ m ih =>
    simp only [List.range_succ, List.map_append, List.map_singleton]
    rw [Nat.succ_mul, List.range_add, List.map_eq_flatMap (l := List.range n)]
    exact (List.flatMap_append_perm _ _ _).symm.trans (ih.append_right _)

/-- Every byte of a block that `n` divides stands in exactly one place of one lane (R144 a). -/
theorem demuxLanes_flatten_perm (block : List Byte) {n : Nat} (hdvd : n ∣ block.length) :
    (demuxLanes block n).flatten.Perm block := by
  have hbytes := (perm_range_of_lanes n (block.length / n)).map fun a => block.getD a 0
  rw [Nat.div_mul_cancel hdvd, map_getD_range_length, List.map_flatMap] at hbytes
  simpa [demuxLanes, List.flatMap_def, Function.comp_def] using hbytes

/-- One lane is the block itself (R142). -/
theorem demuxLanes_one (block : List Byte) : demuxLanes block 1 = [block] := by
  have hlane := map_getD_range_length block
  simpa [demuxLanes] using hlane

/-! ### The operation (40_demux.md R141, R143) -/

/-- With a channel count of the spec the operation leaves the lanes of the filled block. -/
theorem exec_dmxDemux_of_count {s : State} (hn : s.port.n = 1 ∨ s.port.n = 2 ∨ s.port.n = 4) :
    exec .dmxDemux s =
      .next { s with
        c := { s.c with lanes := demuxLanes (fillFree s.free (blkCells s)) s.port.n }
        free := s.free + s.par.blockBytes } := by
  rcases demux_cases s.port.n s with ⟨-, hd⟩ | ⟨hnot, -⟩
  · exact congrArg _ hd
  · exact absurd hn hnot

/-- With another channel count the operation raises `E_CHANNEL_COUNT`. -/
theorem exec_dmxDemux_of_not_count {s : State}
    (hn : ¬(s.port.n = 1 ∨ s.port.n = 2 ∨ s.port.n = 4)) :
    exec .dmxDemux s = .next (raiseConfigError eChannelCount 0 s) := by
  rcases demux_cases s.port.n s with ⟨hcount, -⟩ | ⟨-, hd⟩
  · exact absurd hcount hn
  · exact congrArg _ hd

/-- Settles O21: the operation leaves the lanes of the filled block, which for a held block is the block,
and the positions the lanes read are a permutation of the block's. -/
theorem demuxCompletes : Obligations.DemuxCompletes := by
  refine ⟨⟨?_, ?_⟩, fun block n _ hdvd => demuxLanes_flatten_perm block hdvd, demuxLanes_one⟩
  · rintro s n rfl hn
    have hshares := (demuxLanes_lengths (fillFree s.free (blkCells s)) s.port.n).1
    refine ⟨_, exec_dmxDemux_of_count hn, hshares, fun k hk => ?_⟩
    obtain ⟨lane, hlane, hlength, hsample⟩ := exists_lane_of_lt (fillFree s.free (blkCells s)) hk
    rw [fillFree_length, blkCells_length] at hlength hsample
    refine ⟨lane, hlane, hlength, fun block hb hlen j hj => ?_⟩
    have hfilled : fillFree s.free (blkCells s) = block := by
      rw [blkCells_of_held hb hlen, fillFree_map_some]
    rw [hsample j hj, hfilled]
  · intro s h1 h2 h4
    exact exec_dmxDemux_of_not_count (by simp [h1, h2, h4])

end Sys2Proof.Machine
end

section
/-!
PROOFS. The Channel Ring Buffer (41_ring_buffer.md): what a write leaves in each cell (O22), the
cells of a window (O23, O26), and, by the one write that a sequence of writes amounts to, the history
a ring holds (O24, O25).
-/

namespace Sys2Proof.Machine

/-! ### The cells after a write (41_ring_buffer.md R153) -/

/-- A sample that no later sample of its lane overwrites stands in its cell. -/
theorem read_writeSamples_of_last {cap : Nat} {m : Memory} {at' k : Nat} {lane : List Byte}
    (hk : k < lane.length)
    (hlast : ∀ k' < lane.length, k < k' → (at' + k') % cap ≠ (at' + k) % cap) :
    (writeSamples cap m at' lane).read? ((at' + k) % cap) = lane[k]? := by
  have hcut : lane = lane.take k ++ lane[k] :: lane.drop (k + 1) := by simp
  have hlen : (lane.take k).length = k := List.length_take_of_le hk.le
  have hlater : ∀ j < (lane.drop (k + 1)).length, (at' + k + 1 + j) % cap ≠ (at' + k) % cap := by
    intro j hj
    rw [List.length_drop] at hj
    have := hlast (k + 1 + j) (by omega) (by omega)
    rwa [← Nat.add_assoc, ← Nat.add_assoc] at this
  calc (writeSamples cap m at' lane).read? ((at' + k) % cap)
    _ = (writeSamples cap ((writeSamples cap m at' (lane.take k)).write ((at' + k) % cap) lane[k])
          (at' + k + 1) (lane.drop (k + 1))).read? ((at' + k) % cap) := by
        conv_lhs => rw [hcut, writeSamples_append, hlen, writeSamples]
    _ = some lane[k] := by rw [read_writeSamples_of_ne _ _ _ _ hlater, Memory.read_write_same]
    _ = lane[k]? := (List.getElem?_eq_getElem hk).symm

/-- The loop of `RB.WRITE` looks at its cursor modulo the capacity only. -/
theorem writeSamples_mod (cap : Nat) (m : Memory) (at' : Nat) (lane : List Byte) :
    writeSamples cap m (at' % cap) lane = writeSamples cap m at' lane := by
  induction lane generalizing m at' with
  | nil => rfl
  | cons x xs ih =>
    rw [writeSamples, writeSamples, Nat.mod_mod, ← ih _ (at' % cap + 1), Nat.mod_add_mod, ih]

/-! ### The ring after a write -/

theorem ringWritten_mem (r : Ring) (lane : List Byte) :
    (ringWritten r lane).mem = writeSamples r.cap.toNat r.mem r.wr.toNat lane := rfl

theorem ringWritten_wr {r : Ring} (h : r.cap ≠ 0) (lane : List Byte) :
    (ringWritten r lane).wr.toNat = (r.wr.toNat + lane.length) % r.cap.toNat := by
  have hlt := Nat.mod_lt (r.wr.toNat + lane.length) (BitVec.toNat_pos_of_ne_zero h)
  exact Nat.mod_eq_of_lt (hlt.trans r.cap.isLt)

theorem ringWritten_filled (r : Ring) (lane : List Byte) :
    (ringWritten r lane).filled.toNat = min r.cap.toNat (r.filled.toNat + lane.length) :=
  Nat.mod_eq_of_lt ((Nat.min_le_left _ _).trans_lt r.cap.isLt)

/-- Two writes in a row are one write of both lanes. -/
theorem ringWritten_append {r : Ring} (h : r.cap ≠ 0) (l₁ l₂ : List Byte) :
    ringWritten (ringWritten r l₁) l₂ = ringWritten r (l₁ ++ l₂) := by
  have hmem : (ringWritten (ringWritten r l₁) l₂).mem = (ringWritten r (l₁ ++ l₂)).mem := by
    rw [ringWritten_mem, ringWritten_wr h, ringWritten_cap, writeSamples_mod, ringWritten_mem,
      ringWritten_mem, writeSamples_append]
  have hwr : (ringWritten (ringWritten r l₁) l₂).wr = (ringWritten r (l₁ ++ l₂)).wr := by
    apply BitVec.eq_of_toNat_eq
    rw [ringWritten_wr (r := ringWritten r l₁) h, ringWritten_wr h, ringWritten_wr h,
      ringWritten_cap, Nat.mod_add_mod, List.length_append, Nat.add_assoc]
  have hfilled :
      (ringWritten (ringWritten r l₁) l₂).filled = (ringWritten r (l₁ ++ l₂)).filled := by
    apply BitVec.eq_of_toNat_eq
    rw [ringWritten_filled, ringWritten_filled, ringWritten_filled, ringWritten_cap,
      List.length_append]
    omega
  exact (Ring.mk.injEq ..).mpr ⟨rfl, hwr, hmem, hfilled⟩

/-! ### The operations of configuring and writing (41_ring_buffer.md R151, R153) -/

theorem exec_rbConfigure_of_cap {s : State} (h : s.port.cap ≠ 0) :
    exec .rbConfigure s = .next (configureRing s.port.cap s.port.c s) := if_neg h

theorem exec_rbWrite_of_cap {s : State} (h : s.rb[s.port.c].cap ≠ 0) :
    exec .rbWrite s = .next (withRing s.port.c (ringWritten s.rb[s.port.c] s.port.lane) s) := by
  change (writeRing s.port.c s.port.lane s).outcome _ = _
  rcases writeRing_cases s.port.c s.port.lane s with ⟨h0, -, -⟩ | ⟨-, hw⟩
  · exact absurd h0 h
  · rw [hw]
    rfl

/-- Settles O22: the ring left is the ring written, cell by cell the last sample that goes there or
the old contents. -/
theorem rbConfigureAndWriteComplete : Obligations.RbConfigureAndWriteComplete := by
  refine ⟨fun s h => exec_rbConfigure_of_cap h, ?_⟩
  rintro s r n rfl rfl hcap
  exact ⟨_, exec_rbWrite_of_cap hcap, rfl, ringWritten_wr hcap _, ringWritten_filled _ _,
    fun k hk hlast => read_writeSamples_of_last hk hlast,
    fun a hother => read_writeSamples_of_ne _ _ _ _ hother⟩

/-! ### The cells of a window (41_ring_buffer.md R156, R157) -/

theorem windowCells_getElem? (r : Ring) {len k : Nat} (endOffset : Nat) (hk : k < len) :
    (windowCells r len endOffset)[k]? =
      some (r.mem.read? ((windowStart r len endOffset + k) % r.cap.toNat)) := by
  simp [windowCells, hk]

theorem windowStart_cast {r : Ring} (h : r.cap ≠ 0) (len endOffset : Nat) :
    (windowStart r len endOffset : Int) =
      ((r.wr.toNat : Int) - endOffset - len) % (r.cap.toNat : Int) :=
  Int.toNat_of_nonneg (Int.emod_nonneg _ (by have := BitVec.toNat_pos_of_ne_zero h; omega))

theorem windowStart_lt {r : Ring} (h : r.cap ≠ 0) (len endOffset : Nat) :
    windowStart r len endOffset < r.cap.toNat := by
  have hlt := Int.emod_lt_of_pos ((r.wr.toNat : Int) - endOffset - len)
    (by exact_mod_cast BitVec.toNat_pos_of_ne_zero h : (0 : Int) < r.cap.toNat)
  rw [← windowStart_cast h] at hlt
  exact_mod_cast hlt

/-- Cell `k` of a window lies `k` cells after its start, the whole reduced once. -/
theorem windowCell_cast {r : Ring} (h : r.cap ≠ 0) (len endOffset k : Nat) :
    (((windowStart r len endOffset + k) % r.cap.toNat : Nat) : Int) =
      ((r.wr.toNat : Int) - endOffset - len + k) % (r.cap.toNat : Int) := by
  rw [Int.natCast_emod, Int.natCast_add, windowStart_cast h, Int.emod_add_emod]

/-- Settles O26: a window of at most `cap` cells reaches the end of the ring once at most, so the
cells from `first` on are those from cell 0. -/
theorem windowIsTwoPieces : Obligations.WindowIsTwoPieces := by
  intro r len endOffset first hcap hlen hfirst
  have hstart := windowStart_lt hcap len endOffset
  obtain ⟨rest, hrest⟩ : ∃ rest, len = first + rest := ⟨len - first, by omega⟩
  have hbefore : ∀ k < first,
      (windowStart r len endOffset + k) % r.cap.toNat = windowStart r len endOffset + k :=
    fun k hk => Nat.mod_eq_of_lt (by omega)
  have hafter : ∀ k < rest, (windowStart r len endOffset + (first + k)) % r.cap.toNat = 0 + k := by
    intro k hk
    have hwrap : windowStart r len endOffset + (first + k) = k + r.cap.toNat := by omega
    rw [hwrap, Nat.add_mod_right, Nat.mod_eq_of_lt (by omega), Nat.zero_add]
  have hsplit : List.range len = List.range first ++ (List.range rest).map (first + ·) := by
    rw [hrest, List.range_add]
  have hpiece : len - first = rest := by omega
  rw [windowCells, hsplit, List.map_append, List.map_map, hpiece]
  congr 1
  · exact List.map_congr_left fun k hk => by rw [hbefore k (List.mem_range.mp hk)]
  · exact List.map_congr_left fun k hk => by
      rw [Function.comp_apply, hafter k (List.mem_range.mp hk)]

/-! ### The operation of reading (41_ring_buffer.md R156, R158, R159) -/

theorem exec_rbRead_of_le {s : State}
    (h : s.port.len + s.port.endOffset.toNat ≤ s.rb[s.port.c].cap.toNat) :
    exec .rbRead s =
      .next { s with
        port := { s.port with
          dest := fillFree s.free
            (windowCells s.rb[s.port.c] s.port.len s.port.endOffset.toNat) }
        free := s.free + s.port.len } := by
  change (readRing s.port.c s.port.len s.port.endOffset.toNat s).outcome _ = _
  rcases readRing_cases s.port.c s.port.len s.port.endOffset.toNat s with ⟨hlt, -⟩ | ⟨-, hr⟩
  · exact absurd h (Nat.not_le_of_lt hlt)
  · rw [hr]
    rfl

theorem exec_rbRead_of_lt {s : State}
    (h : s.rb[s.port.c].cap.toNat < s.port.len + s.port.endOffset.toNat) :
    exec .rbRead s = .next (raiseFatal fRingBounds s) := by
  change (readRing s.port.c s.port.len s.port.endOffset.toNat s).outcome _ = _
  rcases readRing_cases s.port.c s.port.len s.port.endOffset.toNat s with ⟨-, hr⟩ | ⟨hle, -⟩
  · rw [hr]
    rfl
  · exact absurd h (Nat.not_lt_of_le hle)

/-- Settles O23: the bytes read are the window's cells, filled. A window with a cell is one of a ring
with a capacity. -/
theorem rbReadCompletes : Obligations.RbReadCompletes := by
  rintro s r e rfl rfl
  refine ⟨fun hle => ⟨_, exec_rbRead_of_le hle, by simp, fun k hk cell hcell => ?_⟩,
    exec_rbRead_of_lt⟩
  have hcap : s.rb[s.port.c].cap ≠ 0 := fun h0 => by
    have hzero : s.rb[s.port.c].cap.toNat = 0 := congrArg BitVec.toNat h0
    omega
  rw [← windowCell_cast hcap, Int.natCast_inj] at hcell
  rw [fillFree_getElem?, windowCells_getElem? _ _ hk, ← hcell]
  cases (s.rb[s.port.c]).mem.read? cell <;> rfl

/-! ### The history a ring holds (41_ring_buffer.md R155, R161) -/

/-- Writing lanes one after another is writing the whole stream at once. -/
theorem foldl_ringWritten {r : Ring} (h : r.cap ≠ 0) (done : List Byte) (lanes : List (List Byte)) :
    lanes.foldl ringWritten (ringWritten r done) = ringWritten r (done ++ lanes.flatten) := by
  induction lanes generalizing done with
  | nil => simp
  | cons lane lanes ih =>
    rw [List.foldl_cons, ringWritten_append h, ih, List.flatten_cons, List.append_assoc]

theorem ringWritten_ringConfigured_nil (cap : BitVec 33) :
    ringWritten (ringConfigured cap) [] = ringConfigured cap := by
  simp [ringWritten, ringConfigured, writeSamples]

theorem ringAfter_eq {cap : BitVec 33} (h : cap ≠ 0) (lanes : List (List Byte)) :
    ringAfter cap lanes = ringWritten (ringConfigured cap) lanes.flatten := by
  have hfold := foldl_ringWritten (r := ringConfigured cap) h [] lanes
  rwa [ringWritten_ringConfigured_nil] at hfold

theorem ringAfter_wr {cap : BitVec 33} (h : cap ≠ 0) (lanes : List (List Byte)) :
    (ringAfter cap lanes).wr.toNat = lanes.flatten.length % cap.toNat := by
  rw [ringAfter_eq h, ringWritten_wr (r := ringConfigured cap) h]
  simp [ringConfigured]

theorem ringAfter_filled {cap : BitVec 33} (h : cap ≠ 0) (lanes : List (List Byte)) :
    (ringAfter cap lanes).filled.toNat = min cap.toNat lanes.flatten.length := by
  rw [ringAfter_eq h, ringWritten_filled]
  simp [ringConfigured]

theorem ringAfter_cap {cap : BitVec 33} (h : cap ≠ 0) (lanes : List (List Byte)) :
    (ringAfter cap lanes).cap = cap := by
  rw [ringAfter_eq h]
  rfl

theorem ringAfter_mem {cap : BitVec 33} (h : cap ≠ 0) (lanes : List (List Byte)) :
    (ringAfter cap lanes).mem = writeSamples cap.toNat [] 0 lanes.flatten := by
  rw [ringAfter_eq h]
  rfl

/-- Indices less than `cap` apart go to different cells. -/
theorem mod_ne_mod_of_lt {cap q q' : Nat} (hlt : q < q') (hnear : q' < q + cap) :
    q' % cap ≠ q % cap :=
  fun heq => hlt.ne' (Nat.mod_injOn_Ico q cap (by simp; omega) (by simp; omega) heq)

/-- One of the last `cap` indices goes to the cell of any earlier one: the index a whole number of
turns later. -/
theorem exists_recent_index {cap P j : Nat} (hcap : 0 < cap) (hj : j < P) :
    ∃ q, P - cap ≤ q ∧ q < P ∧ q % cap = j % cap := by
  have hturns := Nat.div_add_mod (P - 1 - j) cap
  have hlt := Nat.mod_lt (P - 1 - j) hcap
  refine ⟨j + cap * ((P - 1 - j) / cap), by omega, by omega, Nat.add_mul_mod_self_left _ _ _⟩

/-- A sample of the last `cap` stands at its index modulo the capacity. -/
theorem ringAfter_read_recent {cap : BitVec 33} (h : cap ≠ 0) {lanes : List (List Byte)}
    {q : Nat} (hrecent : lanes.flatten.length - cap.toNat ≤ q) (hq : q < lanes.flatten.length) :
    (ringAfter cap lanes).mem.read? (q % cap.toNat) = lanes.flatten[q]? := by
  have hlast := read_writeSamples_of_last (cap := cap.toNat) (m := []) (at' := 0) hq
    fun q' hq' hlt => by
      rw [Nat.zero_add, Nat.zero_add]
      exact mod_ne_mod_of_lt hlt (by omega)
  rwa [Nat.zero_add, ← ringAfter_mem h] at hlast

/-- A cell that none of the last `cap` samples goes to has never been written. -/
theorem ringAfter_read_uncovered {cap : BitVec 33} (h : cap ≠ 0) {lanes : List (List Byte)}
    {a : Nat} (huncovered : ∀ q, lanes.flatten.length - cap.toNat ≤ q → q < lanes.flatten.length →
      q % cap.toNat ≠ a) :
    (ringAfter cap lanes).mem.read? a = none := by
  rw [ringAfter_mem h, read_writeSamples_of_ne, Memory.read_nil]
  intro j hj
  obtain ⟨q, hrecent, hq, hcell⟩ := exists_recent_index (BitVec.toNat_pos_of_ne_zero h) hj
  rw [Nat.zero_add, ← hcell]
  exact huncovered q hrecent hq

/-- Settles O24: the ring after the writes is the ring after one write of the whole stream, read at
the last `cap` indices and elsewhere. -/
theorem ringHoldsTheLastSamples : Obligations.RingHoldsTheLastSamples := fun _ lanes h =>
  ⟨ringAfter_wr h lanes, ringAfter_filled h lanes, fun _ => ringAfter_read_recent h,
    fun _ => ringAfter_read_uncovered h⟩

/-- In a window inside the history cell `k` is the one of the sample `k` after the window's first. -/
theorem windowCell_ringAfter {cap : BitVec 33} (h : cap ≠ 0) {lanes : List (List Byte)}
    {len endOffset : Nat} (k : Nat) (hhistory : len + endOffset ≤ lanes.flatten.length) :
    (windowStart (ringAfter cap lanes) len endOffset + k) % cap.toNat =
      (lanes.flatten.length - endOffset - len + k) % cap.toNat := by
  have hcast := windowCell_cast (r := ringAfter cap lanes) (by rwa [ringAfter_cap h]) len endOffset k
  rw [ringAfter_cap h, ringAfter_wr h] at hcast
  have hindex : ((lanes.flatten.length - endOffset - len + k : Nat) : Int) =
      (lanes.flatten.length : Int) + (k - endOffset - len) := by omega
  have hoffset : ((lanes.flatten.length % cap.toNat : Nat) : Int) - endOffset - len + k =
      (lanes.flatten.length : Int) % cap.toNat + (k - endOffset - len) := by
    rw [Int.natCast_emod]
    ring
  rw [hoffset, Int.emod_add_emod, ← hindex] at hcast
  exact_mod_cast hcast

/-- Settles O25: cell by cell, each one the cell of a recent sample. -/
theorem ringReturnsTheWindowWritten : Obligations.RingReturnsTheWindowWritten := by
  intro cap lanes len endOffset h hbound hhistory
  apply List.ext_getElem?
  intro k
  by_cases hk : k < len
  · rw [windowCells_getElem? _ _ hk, ringAfter_cap h, windowCell_ringAfter h k hhistory,
      ringAfter_read_recent h (by omega) (by omega), List.getElem?_map,
      List.getElem?_take_of_lt hk, List.getElem?_drop,
      List.getElem?_eq_getElem (by omega), Option.map_some]
  · have hlen : len ≤ k := Nat.le_of_not_lt hk
    rw [List.getElem?_eq_none (by simpa using hlen), List.getElem?_eq_none (by simp; omega)]

end Sys2Proof.Machine
end

section
/-!
PROOFS. The Edge Trigger Engine (42_trigger_engine.md): its configuring operations (O27) and its
step (O28); a scan of two lanes in a row (O30); the samples an engine still takes up to a capture
end, which space the ends (O29, O31); and the scan of a step input (O32).
-/

namespace Sys2Proof.Machine

/-! ### The configuring operations (42_trigger_engine.md R171 to R176) -/

theorem trgVertical_verticalSet (t : Trg) (level : Byte) {hyst : Byte} (h : hyst.toNat ≤ 127) :
    VerticalSet t (trgVertical t level hyst) level hyst :=
  ⟨rfl, nudge_toInt level h, trgVertical_armLevels t level h⟩

theorem trgHorizontal_horizontalSet (t : Trg) {W pos : BitVec 32} (add : BitVec 32)
    (h : pos.toNat < W.toNat) : HorizontalSet t (trgHorizontal t W pos add) W pos add :=
  ⟨rfl, trgHorizontal_samples t add h⟩

/-- With gating off both edges arm (42_trigger_engine.md R176, R177). -/
theorem trgEdge_eq (gating : Bool) (t : Trg) (edge : Edge) :
    trgEdge gating t edge =
      { t with
        enR := !gating || edge == .rising
        enF := !gating || edge == .falling
        state := .unarmed
        captureRemaining := 0
        holdoffRemaining := 0 } := by
  cases gating <;> rfl

theorem exec_trgSetVertical (s : State) :
    exec .trgSetVertical s = .next (setVertical s.port.level s.port.hyst s) := rfl

theorem exec_trgSetHorizontal (s : State) :
    exec .trgSetHorizontal s = .next (setHorizontal s.port.W s.port.pos s.port.add s) := rfl

theorem exec_trgSetEdge (s : State) :
    exec .trgSetEdge s =
      .next { s with trg := trgEdge s.par.edgeGating s.trg s.port.edge } := rfl

theorem exec_trgReset (s : State) :
    exec .trgReset s = .next { s with trg := trgResetted s.trg } := rfl

theorem exec_trgProcess (s : State) :
    exec .trgProcess s = .next { s with trg := trgProcessed s.trg s.port.lane } := rfl

theorem exec_trgSetVertical_of_le {s : State} (h : s.port.hyst.toNat ≤ 127) :
    exec .trgSetVertical s =
      .next { s with trg := trgVertical s.trg s.port.level s.port.hyst } := by
  rw [exec_trgSetVertical]
  rcases setVertical_cases s.port.level s.port.hyst s with ⟨hbad, _⟩ | ⟨_, hr⟩
  · omega
  · rw [hr]

theorem exec_trgSetVertical_of_lt {s : State} (h : 127 < s.port.hyst.toNat) :
    exec .trgSetVertical s = .next (raiseConfigError 0x08 0 s) := by
  rw [exec_trgSetVertical]
  rcases setVertical_cases s.port.level s.port.hyst s with ⟨_, hr⟩ | ⟨hok, _⟩
  · rw [hr]
    rfl
  · omega

theorem exec_trgSetHorizontal_of_lt {s : State} (h : s.port.pos.toNat < s.port.W.toNat) :
    exec .trgSetHorizontal s =
      .next { s with trg := trgHorizontal s.trg s.port.W s.port.pos s.port.add } := by
  rw [exec_trgSetHorizontal]
  rcases setHorizontal_cases s.port.W s.port.pos s.port.add s with ⟨hbad, _⟩ | ⟨_, _, hr⟩
  · bv_omega
  · rw [hr]

theorem exec_trgSetHorizontal_of_le {s : State} (h : s.port.W.toNat ≤ s.port.pos.toNat) :
    exec .trgSetHorizontal s = .next (raiseConfigError 0x08 0 s) := by
  rw [exec_trgSetHorizontal]
  rcases setHorizontal_cases s.port.W s.port.pos s.port.add s with ⟨_, hr⟩ | ⟨_, hok, _⟩
  · rw [hr]
    rfl
  · omega

/-- Settles O27: each operation by its accepting and its refusing case. -/
theorem trgConfigurationCompletes : Obligations.TrgConfigurationCompletes :=
  ⟨fun s => ⟨fun h => ⟨_, trgVertical_verticalSet s.trg _ h, exec_trgSetVertical_of_le h⟩,
      exec_trgSetVertical_of_lt⟩,
    fun s => ⟨fun h => ⟨_, trgHorizontal_horizontalSet s.trg _ h, exec_trgSetHorizontal_of_lt h⟩,
      exec_trgSetHorizontal_of_le⟩,
    fun s => ⟨by rw [exec_trgSetEdge, trgEdge_eq], exec_trgReset s⟩⟩

/-! ### The step on one sample (42_trigger_engine.md R179 to R185) -/

section Step

variable {t : Trg} (x : Byte)

theorem trgStep_unarmed (h : t.state = .unarmed) :
    trgStep t x =
      if armsRising t x then ({ t with state := .armedRising }, false)
      else if armsFalling t x then ({ t with state := .armedFalling }, false)
      else (t, false) := by
  rw [trgStep, h]

theorem trgStep_armedRising (h : t.state = .armedRising) :
    trgStep t x = if crossesUp t x then beginCapture t else (t, false) := by
  rw [trgStep, h]

theorem trgStep_armedFalling (h : t.state = .armedFalling) :
    trgStep t x = if crossesDown t x then beginCapture t else (t, false) := by
  rw [trgStep, h]

theorem trgStep_inCapture (h : t.state = .inCapture) : trgStep t x = consumeCapture t := by
  rw [trgStep, h]

theorem trgStep_inHoldoff (h : t.state = .inHoldoff) :
    trgStep t x =
      if t.holdoffRemaining = 1 then ({ t with holdoffRemaining := 0, state := .unarmed }, false)
      else ({ t with holdoffRemaining := t.holdoffRemaining - 1 }, false) := by
  rw [trgStep, h]
  simp only [sub_eq_zero]

/-- No capture ends in the holdoff (42_trigger_engine.md R185). -/
theorem trgStep_inHoldoff_snd (h : t.state = .inHoldoff) : (trgStep t x).2 = false := by
  rw [trgStep_inHoldoff x h]
  split <;> rfl

end Step

/-- `ConsumeCapture` by the value of the countdown before the sample (42_trigger_engine.md R183). -/
theorem consumeCapture_eq (t : Trg) :
    consumeCapture t =
      if t.captureRemaining ≠ 1 then
        ({ t with captureRemaining := t.captureRemaining - 1 }, false)
      else if t.holdoffSamples = 0 then ({ t with captureRemaining := 0, state := .unarmed }, true)
      else
        ({ t with captureRemaining := 0, state := .inHoldoff, holdoffRemaining := t.holdoffSamples },
          true) := by
  rcases consumeCapture_cases t with ⟨hgo, hr⟩ | ⟨hend, hgap, hr⟩ | ⟨hend, hgap, hr⟩ <;> rw [hr]
  · rw [if_pos (sub_ne_zero.1 hgo)]
  · rw [if_neg (not_not.2 (sub_eq_zero.1 hend)), if_neg hgap]
  · rw [if_neg (not_not.2 (sub_eq_zero.1 hend)), if_pos hgap]

/-- A capture that ends on sample `i` gives the end `i + 1` (42_trigger_engine.md R178, R183). -/
theorem trgScan_snd_cons (t : Trg) (i : Nat) (x : Byte) (xs : List Byte) :
    (trgScan t i (x :: xs)).2 =
      (if (trgStep t x).2 then [BitVec.ofNat 32 (i + 1)] else []) ++
        (trgScan (trgStep t x).1 (i + 1) xs).2 := by
  rw [trgScan_cons]
  split <;> rfl

/-- Settles O28, state by state. -/
theorem triggerStepRules : Obligations.TriggerStepRules := by
  refine ⟨fun t x h => ?_, fun t x h => ?_, fun t x h => ?_, fun _ x h => trgStep_inCapture x h,
    fun _ x h => trgStep_inHoldoff x h, consumeCapture_eq, fun t i x xs =>
    Prod.ext rfl (trgScan_snd_cons t i x xs)⟩
  · simp [trgStep_unarmed x h, armsRising, armsFalling]
  · simp [trgStep_armedRising x h, crossesUp, beginCapture]
  · simp [trgStep_armedFalling x h, crossesDown, beginCapture]

/-! ### A stream in lanes (42_trigger_engine.md R187) -/

/-- The engine and the ends of two lanes in a row: the second goes on where the first leaves off. -/
theorem trgScan_append (t : Trg) (i : Nat) (xs ys : List Byte) :
    trgScan t i (xs ++ ys) =
      ((trgScan (trgScan t i xs).1 (i + xs.length) ys).1,
        (trgScan t i xs).2 ++ (trgScan (trgScan t i xs).1 (i + xs.length) ys).2) := by
  induction xs generalizing t i with
  | nil => rfl
  | cons x xs ih =>
    have hindex : i + (xs.length + 1) = i + 1 + xs.length := by omega
    rw [List.cons_append, List.length_cons, hindex]
    refine Prod.ext ?_ ?_
    · rw [trgScan_cons, ih]
      rfl
    · rw [trgScan_snd_cons, trgScan_snd_cons, ih, List.append_assoc]
      rfl

/-- An index to count from is added to every capture end. -/
theorem trgScan_snd_index (t : Trg) (before i : Nat) (lane : List Byte) :
    (trgScan t (before + i) lane).2 =
      (trgScan t i lane).2.map (fun e => e + BitVec.ofNat 32 before) := by
  induction lane generalizing t i with
  | nil => rfl
  | cons x xs ih =>
    have hend : BitVec.ofNat 32 (before + i + 1) = BitVec.ofNat 32 (i + 1) + .ofNat 32 before := by
      rw [← BitVec.ofNat_add]
      congr 1
      omega
    have htail := ih (trgStep t x).1 (i + 1)
    rw [← Nat.add_assoc] at htail
    simp only [trgScan_cons, htail, hend]
    split <;> rfl

theorem scanLanes_cons (t : Trg) (before : Nat) (lane : List Byte) (lanes : List (List Byte)) :
    scanLanes t before (lane :: lanes) =
      ((scanLanes (trgScan t 0 lane).1 (before + lane.length) lanes).1,
        (trgScan t 0 lane).2.map (fun e => e + BitVec.ofNat 32 before) ++
          (scanLanes (trgScan t 0 lane).1 (before + lane.length) lanes).2) := rfl

theorem scanLanes_eq_trgScan (t : Trg) (before : Nat) (lanes : List (List Byte)) :
    scanLanes t before lanes = trgScan t before lanes.flatten := by
  induction lanes generalizing t before with
  | nil => rfl
  | cons lane lanes ih =>
    rw [scanLanes_cons, List.flatten_cons, trgScan_append, ih, ← trgScan_snd_index, Nat.add_zero,
      trgScan_fst_index t 0 before]

/-- Settles O30: lane by lane, from any index. -/
theorem scanIgnoresChunking : Obligations.ScanIgnoresChunking := fun t lanes =>
  scanLanes_eq_trgScan t 0 lanes

/-! ### The ends of one scan (42_trigger_engine.md R178, R186, R188) -/

/-- A lower bound on the samples an engine takes up to and with the next capture end: the rest of
its holdoff, the sample that arms, and the rest of its capture (42_trigger_engine.md R188). -/
def samplesToEnd (t : Trg) : Nat :=
  match t.state with
  | .unarmed => 1 + t.captureSamples.toNat
  | .armedRising | .armedFalling => t.captureSamples.toNat
  | .inCapture => t.captureRemaining.toNat
  | .inHoldoff => t.holdoffRemaining.toNat + 1 + t.captureSamples.toNat

theorem samplesToEnd_unarmed {t : Trg} (h : t.state = .unarmed) :
    samplesToEnd t = 1 + t.captureSamples.toNat := by
  rw [samplesToEnd, h]

theorem samplesToEnd_armed {t : Trg} (h : t.state = .armedRising ∨ t.state = .armedFalling) :
    samplesToEnd t = t.captureSamples.toNat := by
  rcases h with h | h <;> rw [samplesToEnd, h]

theorem samplesToEnd_inCapture {t : Trg} (h : t.state = .inCapture) :
    samplesToEnd t = t.captureRemaining.toNat := by
  rw [samplesToEnd, h]

theorem samplesToEnd_inHoldoff {t : Trg} (h : t.state = .inHoldoff) :
    samplesToEnd t = t.holdoffRemaining.toNat + 1 + t.captureSamples.toNat := by
  rw [samplesToEnd, h]

/-- The samples from one capture end to the next: a whole holdoff, the sample that arms, and a whole
capture (42_trigger_engine.md R188). -/
def endSpacing (t : Trg) : Nat := t.holdoffSamples.toNat + 1 + t.captureSamples.toNat

theorem SameTrgConfig.endSpacing_eq {t t' : Trg} (h : SameTrgConfig t t') :
    endSpacing t' = endSpacing t := by
  obtain ⟨-, -, -, -, -, -, -, -, -, hcapture, hholdoff⟩ := h
  rw [endSpacing, endSpacing, hcapture, hholdoff]

/-- What one sample makes of `samplesToEnd`: without a capture end it falls by at most one, and a
capture end comes no sooner than it says and leaves a whole spacing to the next. -/
def PacedStep (t : Trg) (r : Trg × Bool) : Prop :=
  (r.2 = false ∧ samplesToEnd t ≤ samplesToEnd r.1 + 1) ∨
    (r.2 = true ∧ samplesToEnd t ≤ 1 ∧ samplesToEnd r.1 = endSpacing t)

theorem consumeCapture_paced {t : Trg} (hs : t.state = .inCapture) :
    PacedStep t (consumeCapture t) := by
  have soon (hend : t.captureRemaining - 1 = 0) : samplesToEnd t ≤ 1 := by
    rw [samplesToEnd_inCapture hs, sub_eq_zero.1 hend]
    rfl
  rcases consumeCapture_cases t with ⟨_, hr⟩ | ⟨hend, _, hr⟩ | ⟨hend, hgap, hr⟩ <;> rw [hr]
  · refine .inl ⟨rfl, ?_⟩
    dsimp only
    rw [samplesToEnd_inCapture hs, samplesToEnd_inCapture]
    · bv_omega
    · exact hs
  · exact .inr ⟨rfl, soon hend, rfl⟩
  · exact .inr ⟨rfl, soon hend, by simp [samplesToEnd_unarmed, endSpacing, hgap]⟩

/-- The crossing sample is the first of its capture (42_trigger_engine.md R182). -/
theorem beginCapture_paced {t : Trg} (hs : t.state = .armedRising ∨ t.state = .armedFalling) :
    PacedStep t (beginCapture t) := by
  have hcapture : PacedStep _ (beginCapture t) := consumeCapture_paced rfl
  unfold PacedStep at hcapture ⊢
  rwa [samplesToEnd_armed hs]

theorem trgStep_paced (t : Trg) (x : Byte) : PacedStep t (trgStep t x) := by
  have waits : PacedStep t (t, false) := .inl ⟨rfl, Nat.le_succ _⟩
  cases hs : t.state with
  | unarmed =>
    have arms {r : Trg} (hr : samplesToEnd r = t.captureSamples.toNat) : PacedStep t (r, false) :=
      .inl ⟨rfl, by rw [samplesToEnd_unarmed hs, hr, Nat.add_comm]⟩
    rw [trgStep_unarmed x hs]
    split
    · exact arms rfl
    · split
      exacts [arms rfl, waits]
  | armedRising =>
    rw [trgStep_armedRising x hs]
    split
    exacts [beginCapture_paced (.inl hs), waits]
  | armedFalling =>
    rw [trgStep_armedFalling x hs]
    split
    exacts [beginCapture_paced (.inr hs), waits]
  | inCapture =>
    rw [trgStep_inCapture x hs]
    exact consumeCapture_paced hs
  | inHoldoff =>
    rw [trgStep_inHoldoff x hs]
    split
    · rename_i hlast
      refine .inl ⟨rfl, ?_⟩
      dsimp only
      rw [samplesToEnd_inHoldoff hs, hlast, samplesToEnd_unarmed rfl]
      bv_omega
    · refine .inl ⟨rfl, ?_⟩
      dsimp only
      rw [samplesToEnd_inHoldoff hs, samplesToEnd_inHoldoff]
      · bv_omega
      · exact hs

theorem mem_trgScan_cons {t : Trg} {i : Nat} {x : Byte} {xs : List Byte} {e : BitVec 32} :
    e ∈ (trgScan t i (x :: xs)).2 ↔
      ((trgStep t x).2 = true ∧ e = BitVec.ofNat 32 (i + 1)) ∨
        e ∈ (trgScan (trgStep t x).1 (i + 1) xs).2 := by
  rw [trgScan_snd_cons]
  cases (trgStep t x).2 <;> simp

/-- No capture end comes sooner than `samplesToEnd` says. -/
theorem trgScan_end_ge {t : Trg} {i : Nat} {lane : List Byte} (hfit : i + lane.length < 2 ^ 32)
    {e : BitVec 32} (he : e ∈ (trgScan t i lane).2) : i + samplesToEnd t ≤ e.toNat := by
  induction lane generalizing t i with
  | nil => cases he
  | cons x xs ih =>
    rw [List.length_cons] at hfit
    rcases mem_trgScan_cons.1 he, trgStep_paced t x with
      ⟨⟨hended, rfl⟩ | htail, ⟨hgoes, hle⟩ | ⟨_, hle, _⟩⟩
    · cases hended.symm.trans hgoes
    · rw [BitVec.toNat_ofNat, Nat.mod_eq_of_lt (by omega)]
      omega
    · have hlater := ih (by omega) htail
      omega
    · have hlater := ih (by omega) htail
      omega

/-- Later capture ends are a whole spacing away from earlier ones, whatever state the scan starts in
(42_trigger_engine.md R188). -/
theorem trgScan_ends_spaced {t : Trg} {i : Nat} {lane : List Byte}
    (hfit : i + lane.length < 2 ^ 32) :
    ((trgScan t i lane).2.map BitVec.toNat).Pairwise (fun e e' => e + endSpacing t ≤ e') := by
  induction lane generalizing t i with
  | nil => exact .nil
  | cons x xs ih =>
    rw [List.length_cons] at hfit
    have htail := ih (t := (trgStep t x).1) (i := i + 1) (by omega)
    rw [(trgStep_config t x).endSpacing_eq] at htail
    rw [trgScan_cons]
    rcases trgStep_paced t x with ⟨hgoes, _⟩ | ⟨hended, _, hwhole⟩
    · rwa [hgoes]
    · rw [hended, if_pos rfl]
      refine List.pairwise_cons.2 ⟨List.forall_mem_map.2 fun e he => ?_, htail⟩
      have hlater := trgScan_end_ge (by omega) he
      rwa [BitVec.toNat_ofNat, Nat.mod_eq_of_lt (by omega), ← hwhole]

/-- The ends of one call lie in its lane (42_trigger_engine.md R186). -/
theorem trgScan_toNat_bounds {t : Trg} {lane : List Byte} (hfit : lane.length < 2 ^ 32) :
    ∀ e ∈ (trgScan t 0 lane).2.map BitVec.toNat, 1 ≤ e ∧ e ≤ lane.length :=
  List.forall_mem_map.2 fun e he => by
    have hbounds := trgScan_ends_bounds (by omega) he
    omega

/-- An engine with the configuration registers of another differs from it in the dynamic registers
and the transients alone. -/
theorem SameTrgConfig.with_transients {t t' : Trg} (h : SameTrgConfig t t') (i : BitVec 32)
    (ends : List (BitVec 32)) :
    { t' with i := i, ends := ends } =
      { t with
        state := t'.state
        captureRemaining := t'.captureRemaining
        holdoffRemaining := t'.holdoffRemaining
        i := i
        ends := ends } := by
  cases t
  cases t'
  simpa [SameTrgConfig, and_assoc] using h

/-- Settles O29: the scan keeps the configuration registers, and its ends are at least one sample
apart. -/
theorem trgProcessCompletes : Obligations.TrgProcessCompletes := by
  rintro s _ rfl
  refine ⟨?_, fun hfit => ⟨?_, trgScan_toNat_bounds hfit⟩⟩
  · rw [exec_trgProcess, trgProcessed, (trgScan_config s.trg 0 s.port.lane).with_transients]
  · refine (trgScan_ends_spaced (by omega)).imp fun {e e'} hspaced => ?_
    unfold endSpacing at hspaced
    omega

/-! ### The number of ends (42_trigger_engine.md R190) -/

/-- Numbers `d` apart from `e` on reach a last one that many times `d` away. -/
theorem add_length_mul_le_of_spaced {d hi e : Nat} {es : List Nat}
    (h : (e :: es).Pairwise (fun e e' => e + d ≤ e')) (hhi : ∀ e' ∈ e :: es, e' ≤ hi) :
    e + es.length * d ≤ hi := by
  induction es generalizing e with
  | nil => simpa using hhi
  | cons e' es ih =>
    obtain ⟨hfirst, hrest⟩ := List.pairwise_cons.1 h
    have hnext : e + d ≤ e' := hfirst e' List.mem_cons_self
    have hlast := ih hrest fun _ hm => hhi _ (List.mem_cons_of_mem _ hm)
    rw [List.length_cons, Nat.succ_mul]
    omega

theorem length_le_of_spaced {d n : Nat} (hd : 0 < d) {es : List Nat}
    (h : es.Pairwise (fun e e' => e + d ≤ e')) (hb : ∀ e ∈ es, 1 ≤ e ∧ e ≤ n) :
    es.length ≤ 1 + (n - 1) / d := by
  cases es with
  | nil => exact Nat.zero_le _
  | cons e es =>
    have hlast := add_length_mul_le_of_spaced h fun e' he => (hb e' he).2
    have hfirst : 1 ≤ e := (hb e List.mem_cons_self).1
    have hlen : es.length ≤ (n - 1) / d := (Nat.le_div_iff_mul_le hd).2 (by omega)
    rw [List.length_cons]
    omega

/-- Settles O31: the two lengths and the sample that arms add up to `W + add + 1`. -/
theorem captureEndsAreSpaced : Obligations.CaptureEndsAreSpaced := by
  intro t lane hpos hcapture hholdoff hfit
  have hspacing : endSpacing t = t.W.toNat + t.add.toNat + 1 := by
    unfold endSpacing
    omega
  have hspaced := trgScan_ends_spaced (t := t) (i := 0) (lane := lane) (by omega)
  rw [hspacing] at hspaced
  refine ⟨by simpa only [Nat.add_assoc] using hspaced, ?_⟩
  simpa using length_le_of_spaced (by omega) hspaced (trgScan_toNat_bounds hfit)

/-! ### A step input (42_trigger_engine.md R193) -/

/-- A sample that does not arm the engine (42_trigger_engine.md R179). -/
def Quiet (t : Trg) (x : Byte) : Prop := armsRising t x = false ∧ armsFalling t x = false

/-- An engine that a sample leaves waiting for one that arms, or in its holdoff. -/
def Idle (t : Trg) (x : Byte) : Prop := (t.state = .unarmed ∨ t.state = .inHoldoff) ∧ Quiet t x

theorem Idle.step {t : Trg} {x : Byte} (h : Idle t x) :
    (trgStep t x).2 = false ∧ Idle (trgStep t x).1 x := by
  obtain ⟨hs | hs, hquiet⟩ := h
  · have hwaits : trgStep t x = (t, false) := by
      obtain ⟨hrising, hfalling⟩ := hquiet
      simp [trgStep_unarmed x hs, hrising, hfalling]
    rw [hwaits]
    exact ⟨rfl, .inl hs, hquiet⟩
  · rw [trgStep_inHoldoff x hs]
    split
    exacts [⟨rfl, .inl rfl, hquiet⟩, ⟨rfl, .inr hs, hquiet⟩]

theorem Idle.no_ends {t : Trg} {x : Byte} (h : Idle t x) (i n : Nat) :
    (trgScan t i (.replicate n x)).2 = [] := by
  induction n generalizing t i with
  | zero => rfl
  | succ n ih =>
    obtain ⟨hgoes, hidle⟩ := h.step
    rw [List.replicate_succ, trgScan_snd_cons, hgoes, ih hidle]
    rfl

/-- The last sample of a capture leaves the engine idle. -/
theorem consumeCapture_last {t : Trg} {x : Byte} (hlast : t.captureRemaining = 1) (hq : Quiet t x) :
    (consumeCapture t).2 = true ∧ Idle (consumeCapture t).1 x := by
  rw [consumeCapture_eq, if_neg (not_not.2 hlast)]
  split
  exacts [⟨rfl, .inl rfl, hq⟩, ⟨rfl, .inr rfl, hq⟩]

/-- A capture on quiet samples ends once, when its countdown has run out (42_trigger_engine.md
R183). -/
theorem trgScan_inCapture_of_quiet {t : Trg} {x : Byte} (hs : t.state = .inCapture) (hq : Quiet t x)
    (hne : t.captureRemaining ≠ 0) (i : Nat) {n : Nat} (hn : t.captureRemaining.toNat ≤ n) :
    (trgScan t i (.replicate n x)).2 = [.ofNat 32 (i + t.captureRemaining.toNat)] := by
  induction n generalizing t i with
  | zero => exact absurd (by bv_omega) hne
  | succ n ih =>
    rw [List.replicate_succ, trgScan_snd_cons, trgStep_inCapture x hs]
    by_cases hlast : t.captureRemaining = 1
    · obtain ⟨hended, hidle⟩ := consumeCapture_last hlast hq
      rw [hended, hidle.no_ends, hlast]
      rfl
    · have hless : t.captureRemaining.toNat = 1 + (t.captureRemaining - 1).toNat := by bv_omega
      rw [consumeCapture_eq, if_pos hlast, hless, ← Nat.add_assoc]
      exact ih (t := { t with captureRemaining := t.captureRemaining - 1 }) hs hq
        (sub_ne_zero.2 hlast) (i + 1) (by dsimp only; omega)

/-- A sample that the engine does nothing on may come any number of times. -/
theorem trgScan_replicate_of_fixed {t : Trg} {x : Byte} (h : trgStep t x = (t, false)) (i n : Nat) :
    trgScan t i (.replicate n x) = (t, []) := by
  induction n generalizing i with
  | zero => rfl
  | succ n ih => simp [List.replicate_succ, trgScan_cons, h, ih]

/-- A crossing from an armed state is scanned as the first sample of a capture of the full length
(42_trigger_engine.md R182). -/
theorem trgScan_of_crossing {t : Trg} {y : Byte} (h : trgStep t y = beginCapture t)
    (i n : Nat) (hn : 0 < n) :
    trgScan t i (.replicate n y) =
      trgScan { t with state := .inCapture, captureRemaining := t.captureSamples } i
        (.replicate n y) := by
  obtain ⟨n, rfl⟩ := Nat.exists_eq_add_one.2 hn
  rw [List.replicate_succ, trgScan_cons, trgScan_cons, h]
  rfl

/-- An input that arms the engine into `q`, leaves it there and then crosses, on a quiet sample. -/
theorem trgScan_step_input {t : Trg} {q : TrgState} {x y : Byte} {a b : Nat} (ha : 0 < a)
    (hne : t.captureSamples ≠ 0) (hb : t.captureSamples.toNat ≤ b)
    (harms : trgStep t x = ({ t with state := q }, false))
    (hstays : trgStep { t with state := q } x = ({ t with state := q }, false))
    (hcross : trgStep { t with state := q } y = beginCapture { t with state := q })
    (hquiet : Quiet t y) :
    (trgScan t 0 (.replicate a x ++ .replicate b y)).2 =
      [.ofNat 32 (a + t.captureSamples.toNat)] := by
  obtain ⟨a, rfl⟩ := Nat.exists_eq_add_one.2 ha
  have hpos : 0 < t.captureSamples.toNat := BitVec.toNat_pos_of_ne_zero hne
  have harmed : trgScan t 0 (.replicate (a + 1) x) = ({ t with state := q }, []) := by
    rw [List.replicate_succ, trgScan_cons, harms, trgScan_replicate_of_fixed hstays]
    rfl
  rw [trgScan_append, harmed, List.nil_append, List.length_replicate, Nat.zero_add,
    trgScan_of_crossing hcross _ _ (hpos.trans_le hb)]
  exact trgScan_inCapture_of_quiet
    (t := { t with state := .inCapture, captureRemaining := t.captureSamples })
    rfl hquiet hne a.succ hb

/-- Settles O32: the rising and the falling input are both such an input. -/
theorem stepInputTriggersOnce : Obligations.StepInputTriggersOnce := by
  refine ⟨fun t low high a b hs ha _ hne hb hlo hhi => ⟨?_, ?_⟩, fun _ x => trgStep_inHoldoff_snd x⟩
  · intro henR henF harm hcross
    refine trgScan_step_input (q := .armedRising) ha hne hb ?_ ?_ ?_ ⟨?_, ?_⟩
    · simp [trgStep_unarmed low hs, armsRising, henR, harm]
    · simp [trgStep_armedRising, crossesUp, harm.trans hlo]
    · simp [trgStep_armedRising, crossesUp, hcross]
    · simp [armsRising, hlo.trans_lt hcross]
    · simp [armsFalling, henF]
  · intro henR henF harm hcross
    refine trgScan_step_input (q := .armedFalling) ha hne hb ?_ ?_ ?_ ⟨?_, ?_⟩
    · simp [trgStep_unarmed high hs, armsRising, armsFalling, henR, henF, harm]
    · simp [trgStep_armedFalling, crossesDown, hhi.trans harm]
    · simp [trgStep_armedFalling, crossesDown, hcross]
    · simp [armsRising, henR]
    · simp [armsFalling, hcross.trans_le hhi]

end Sys2Proof.Machine
end

section
/-!
PROOFS. The host commands (43_controller_commands.md): what each does when it is accepted (O13 to
O19), the code and the word of each rejection (O7, O10, O11), and what no command touches (O20).
-/

namespace Sys2Proof.Machine

/-! ### Commands that no check rejects (R213 to R215, R217, R218, R222) -/

/-- `RUN` leaves a running core alone (R213). -/
theorem exec_run_of_running {s : State} (h : s.c.runMode = true) : exec .run s = .next s :=
  if_pos h

/-- `RUN` restarts the engine and the counters of a stopped core (R213). -/
theorem exec_run_of_stopped {s : State} (h : s.c.runMode = false) :
    exec .run s =
      .next
        { s with
          trg := trgResetted s.trg
          c := { s.c with runMode := true, autoCount := 0, streamCount := 0 } } :=
  if_neg (Bool.eq_false_iff.1 h)

theorem exec_setMode (mode : TrigMode) (s : State) :
    exec (.setMode mode) s =
      .next { modeSet mode s with c := { s.c with autoCount := 0, streamCount := 0 } } := rfl

theorem exec_setType (edge : Edge) (s : State) :
    exec (.setType edge) s =
      .next { typeSet edge s with trg := trgEdge s.par.edgeGating s.trg edge } := rfl

/-- Settles O13: `RUN` in its two cases; `STOP` and `FORCE` have one. -/
theorem runControlCommandsComplete : Obligations.RunControlCommandsComplete :=
  ⟨fun _ => ⟨exec_run_of_stopped, exec_run_of_running⟩, fun _ => ⟨rfl, rfl⟩⟩

/-- Settles O16. -/
theorem setRateHasNoEffect : Obligations.SetRateHasNoEffect := fun _ _ => rfl

/-! ### Accepted configuration commands (R216, R219 to R221) -/

/-- A lane in use is accepted as the source (R220). -/
theorem exec_setSrc_of_lt {channel : Nat} {s : State} (h : channel < s.par.nch) :
    exec (.setSrc channel) s = .next { sourceSet channel s with trg := trgResetted s.trg } :=
  if_neg (Nat.not_le_of_lt h)

/-- Settles O14: the three exact next states, with the codes of the mode and the edge written out. -/
theorem modeTypeAndSourceComplete : Obligations.ModeTypeAndSourceComplete := by
  refine ⟨fun mode s => ?mode, fun edge s => ?type, fun _ _ => exec_setSrc_of_lt⟩
  case mode =>
    rw [exec_setMode]
    cases mode <;> rfl
  case type =>
    rw [exec_setType, trgEdge_eq]
    cases edge <;> rfl

/-- `TRG.SET_HORIZONTAL` accepts a position inside its window (42_trigger_engine.md R174). -/
theorem setHorizontal_of_lt {W pos : BitVec 32} (add : BitVec 32) (s : State)
    (h : pos.toNat < W.toNat) :
    setHorizontal W pos add s = { s with trg := trgHorizontal s.trg W pos add } := by
  rcases setHorizontal_cases W pos add s with ⟨hbad, _⟩ | ⟨_, _, hr⟩
  · bv_omega
  · exact hr

/-- `TRG.SET_VERTICAL` accepts a hysteresis of at most 127 (42_trigger_engine.md R172). -/
theorem setVertical_of_le (level : Byte) {hyst : Byte} (s : State) (h : hyst.toNat ≤ 127) :
    setVertical level hyst s = { s with trg := trgVertical s.trg level hyst } := by
  rcases setVertical_cases level hyst s with ⟨hbad, _⟩ | ⟨_, hr⟩
  · omega
  · exact hr

/-- The rings of a state with every ring in use re-created at a capacity (R216). -/
def recreatedRings (cap : BitVec 33) (s : State) : Vector Ring 4 :=
  Vector.ofFn fun c : Fin 4 => if c.val < s.par.nch then ringConfigured cap else s.rb[c]

theorem configureRings_channels (cap : BitVec 33) (s : State) :
    configureRings cap (channels s.par) s = { s with rb := recreatedRings cap s } := by
  obtain ⟨rb, hrings, hrb⟩ := configureRings_frame cap (channels s.par) s
  have heq : rb = recreatedRings cap s := by
    refine Vector.ext fun c hc => ?_
    simpa [recreatedRings] using hrb ⟨c, hc⟩
  rw [hrings, heq]

/-- A width of at most `MAXW` stands in its register. -/
theorem toNat_ofNat_of_le_maxw {samples : Nat} {p : Params} (hv : p.valid = true)
    (h : samples ≤ p.maxw) : (BitVec.ofNat 32 samples).toNat = samples :=
  Nat.mod_eq_of_lt (h.trans_lt (paramsInDomain_of_valid hv).maxw)

/-- The rings and the engine fit the new width once the position lies inside it. -/
theorem depthSet_eq {samples : Nat} {s : State}
    (hpos : s.cfg.pos.toNat < (BitVec.ofNat 32 samples).toNat) :
    depthSet samples s =
      { widthSet samples s with
        rb := recreatedRings (.ofNat 33 (samples + laneLen s.par)) s
        trg := trgHorizontal s.trg (.ofNat 32 samples) s.cfg.pos s.cfg.addHoldoff } := by
  have hpar : s.par = (widthSet samples s).par := rfl
  rw [depthSet, setHorizontal_of_lt _ _ hpos, hpar, configureRings_channels]
  rfl

/-- A width in range and beyond the position is accepted (R216). -/
theorem exec_setDepth_of_range {samples : Nat} {s : State} (hmin : s.par.minw ≤ samples)
    (hmax : samples ≤ s.par.maxw) (hpos : s.cfg.pos.toNat < samples) :
    exec (.setDepth samples) s =
      .next { depthSet samples s with c := { (depthSet samples s).c with streamCount := 0 } } := by
  have hrange : ¬(samples < s.par.minw ∨ s.par.maxw < samples) := by omega
  change execSetDepth samples s = _
  rw [execSetDepth, if_neg hrange, if_neg (Nat.not_le_of_lt hpos)]
  simp only [configureRings_cfg]
  rfl

/-- Settles O15: the width stands in the register because `MAXW` does. -/
theorem setDepthCompletes : Obligations.SetDepthCompletes := by
  intro samples s hv hmin hmax hpos
  have hinside := hpos.trans_eq (toNat_ofNat_of_le_maxw hv hmax).symm
  refine ⟨_, trgHorizontal_horizontalSet s.trg _ hinside, ?_⟩
  rw [exec_setDepth_of_range hmin hmax hpos, depthSet_eq hinside]
  rfl

/-- A delay that ends inside the window is accepted (R219). -/
theorem exec_setDelay_of_lt {femtoseconds : Nat} {s : State}
    (h : delayPos s.par femtoseconds < s.cfg.W.toNat) :
    ∃ pos : BitVec 32, pos = .ofNat 32 (delayPos s.par femtoseconds) ∧ pos.toNat < s.cfg.W.toNat ∧
      exec (.setDelay femtoseconds) s =
        .next
          { positionSet pos s with
            trg := trgHorizontal s.trg s.cfg.W pos s.cfg.addHoldoff } := by
  have hfit : (BitVec.ofNat 32 (delayPos s.par femtoseconds)).toNat = delayPos s.par femtoseconds :=
    Nat.mod_eq_of_lt (h.trans s.cfg.W.isLt)
  refine ⟨_, rfl, hfit.trans_lt h, (if_neg (Nat.not_le_of_lt h)).trans ?_⟩
  exact congrArg _ (setHorizontal_of_lt _ _ (hfit.trans_lt h))

/-- Settles O17. -/
theorem setDelayCompletes : Obligations.SetDelayCompletes := by
  rintro femtoseconds pos s rfl hpos
  obtain ⟨pos, rfl, hlt, hexec⟩ := exec_setDelay_of_lt hpos
  exact ⟨_, trgHorizontal_horizontalSet s.trg _ hlt, hexec⟩

/-- `FS_UV` of the source channel, the full scale a level is measured against (R221). -/
def sourceFullScale (s : State) : Nat := (s.par.fsUv[srcChannel s.cfg]).toNat

/-- The model compares magnitudes as naturals, R221 as integers. -/
theorem fullScale_lt_iff (fs : Nat) (microvolts : Int) :
    fs < 2 * microvolts.natAbs ↔ (fs : Int) < 2 * |microvolts| := by
  rw [Int.abs_eq_natAbs]
  omega

/-- A level of at most half the full scale is accepted (R221). -/
theorem exec_setLevel_of_le {microvolts : Int} {s : State}
    (h : 2 * |microvolts| ≤ sourceFullScale s) (hhyst : s.cfg.hyst.toNat ≤ 127) :
    ∃ level, level = Config.levelCode microvolts (sourceFullScale s) ∧
      exec (.setLevel microvolts) s =
        .next { levelSet level s with trg := trgVertical s.trg level s.cfg.hyst } :=
  ⟨_, rfl, (if_neg ((fullScale_lt_iff _ _).not.2 h.not_gt)).trans
    (congrArg _ (setVertical_of_le _ _ hhyst))⟩

/-- Settles O18. -/
theorem setLevelCompletes : Obligations.SetLevelCompletes := by
  rintro microvolts fs level s rfl rfl hlevel hhyst
  obtain ⟨level, rfl, hexec⟩ := exec_setLevel_of_le (s := s) hlevel hhyst
  exact ⟨_, trgVertical_verticalSet s.trg _ hhyst, hexec⟩

/-! ### Rejections (R211, R224; 60_exceptions.md R325 to R327) -/

/-- The drain rejects a word that is no command. -/
theorem phaseCmd_of_unknown {s : State} {w : Word64} {q : List Word64} (hq : s.cmdq = w :: q)
    (hd : decodeCmd w = none) :
    phaseCmd s = .next (raiseConfigError 0x06 w { s with cmdq := q }) := by
  simp [phaseCmd, hq, hd, eUnknownCmd]

/-- Settles O7: the drain finds no command in the word, since the decoder is the table. -/
theorem unknownWordIsRejected : Obligations.UnknownWordIsRejected := by
  intro s rest w q hturn ht hp hq hnone
  rw [← decodeCmd_eq_tableCommand] at hnone
  exact (step_drain hturn ht hp).trans (phaseCmd_of_unknown hq hnone)

/-- A rejected command records the word it came in. -/
theorem commandWord_of_decodeCmd {w : Word64} {i : Instr} (h : decodeCmd w = some i) :
    commandWord i = w := by
  rw [commandWord, (encodeInvertsDecode (.cmd w) i h).2]

theorem exec_setDepth_of_not_range {samples : Nat} {s : State}
    (h : samples < s.par.minw ∨ s.par.maxw < samples) :
    exec (.setDepth samples) s =
      .next (raiseConfigError 0x01 (commandWord (.setDepth samples)) s) :=
  if_pos h

theorem exec_setDepth_of_le_pos {samples : Nat} {s : State} (hmin : s.par.minw ≤ samples)
    (hmax : samples ≤ s.par.maxw) (h : samples ≤ s.cfg.pos.toNat) :
    exec (.setDepth samples) s =
      .next (raiseConfigError 0x02 (commandWord (.setDepth samples)) s) :=
  (if_neg (by omega)).trans (if_pos h)

theorem exec_setLevel_of_gt {microvolts : Int} {s : State}
    (h : sourceFullScale s < 2 * |microvolts|) :
    exec (.setLevel microvolts) s =
      .next (raiseConfigError 0x03 (commandWord (.setLevel microvolts)) s) :=
  if_pos ((fullScale_lt_iff _ _).2 h)

theorem exec_setSrc_of_le {channel : Nat} {s : State} (h : s.par.nch ≤ channel) :
    exec (.setSrc channel) s = .next (raiseConfigError 0x04 (commandWord (.setSrc channel)) s) :=
  if_pos h

theorem exec_setDelay_of_le {femtoseconds : Nat} {s : State}
    (h : s.cfg.W.toNat ≤ delayPos s.par femtoseconds) :
    exec (.setDelay femtoseconds) s =
      .next (raiseConfigError 0x05 (commandWord (.setDelay femtoseconds)) s) :=
  if_pos h

/-- Settles O10: each failing check raises its code with the command's encoding, which is the word. -/
theorem commandRejections : Obligations.CommandRejections := by
  refine ⟨⟨fun _ _ _ => rfl, fun _ _ => rfl⟩, fun s w samples hd => ⟨?range, ?position⟩,
    fun s w microvolts hd => ?level, fun s w channel hd => ?source,
    fun s w femtoseconds hd => ?delay⟩ <;>
    rw [← commandWord_of_decodeCmd hd]
  case range => exact exec_setDepth_of_not_range
  case position => exact exec_setDepth_of_le_pos
  case level => exact exec_setLevel_of_gt
  case source => exact exec_setSrc_of_le
  case delay => exact exec_setDelay_of_le

/-- A command is accepted and leaves the error log, or it is rejected and changes the log alone. -/
def AcceptedOrRejected (s t : State) : Prop :=
  t.err = s.err ∨
    (t = { s with err := t.err } ∧ t.err.count = s.err.count + 1 ∧ t.err.fatal = s.err.fatal)

theorem AcceptedOrRejected.of_raised (code : Byte) (w : Word64) (s : State) :
    AcceptedOrRejected s (raiseConfigError code w s) :=
  .inr ⟨rfl, rfl, rfl⟩

theorem exec_setDepth_completes (samples : Nat) {s : State} (hv : s.par.valid = true) :
    ∃ t, exec (.setDepth samples) s = .next t ∧ AcceptedOrRejected s t := by
  by_cases hrange : samples < s.par.minw ∨ s.par.maxw < samples
  · exact ⟨_, exec_setDepth_of_not_range hrange, .of_raised ..⟩
  obtain ⟨hmin, hmax⟩ := (not_or.1 hrange).imp Nat.le_of_not_lt Nat.le_of_not_lt
  rcases Nat.lt_or_ge s.cfg.pos.toNat samples with hpos | hpos
  · refine ⟨_, exec_setDepth_of_range hmin hmax hpos, .inl ?_⟩
    rw [depthSet_eq (hpos.trans_eq (toNat_ofNat_of_le_maxw hv hmax).symm)]
    rfl
  · exact ⟨_, exec_setDepth_of_le_pos hmin hmax hpos, .of_raised ..⟩

/-- Settles O11: the commands that can be rejected by their checks, the others at once. -/
theorem commandsAcceptOrReject : Obligations.CommandsAcceptOrReject := by
  intro i s hi hv hhyst
  change ∃ t, exec i s = .next t ∧ AcceptedOrRejected s t
  cases i with
  | run =>
    rcases execRun_cases s with ⟨_, hr⟩ | ⟨_, hr⟩ <;> exact ⟨_, hr, .inl rfl⟩
  | stop | force | setMode | setRate | setType | getRate => exact ⟨_, rfl, .inl rfl⟩
  | setDepth samples => exact exec_setDepth_completes samples hv
  | setSrc channel =>
    rcases Nat.lt_or_ge channel s.par.nch with h | h
    · exact ⟨_, exec_setSrc_of_lt h, .inl rfl⟩
    · exact ⟨_, exec_setSrc_of_le h, .of_raised ..⟩
  | setDelay femtoseconds =>
    rcases Nat.lt_or_ge (delayPos s.par femtoseconds) s.cfg.W.toNat with h | h
    · obtain ⟨_, _, _, hexec⟩ := exec_setDelay_of_lt h
      exact ⟨_, hexec, .inl rfl⟩
    · exact ⟨_, exec_setDelay_of_le h, .of_raised ..⟩
  | setLevel microvolts =>
    rcases le_or_gt (2 * |microvolts|) (sourceFullScale s : Int) with h | h
    · obtain ⟨_, _, hexec⟩ := exec_setLevel_of_le h hhyst
      exact ⟨_, hexec, .inl rfl⟩
    · exact ⟨_, exec_setLevel_of_gt h, .of_raised ..⟩
  | _ => cases hi

/-! ### What no command touches (R212; 60_exceptions.md R346) -/

/-- `s` with everything a command may write taken from `t`. -/
def commandWrites (s t : State) : State :=
  { s with
    cfg := t.cfg
    rb := t.rb
    trg := t.trg
    err := { t.err with fatal := s.err.fatal }
    rspq := t.rspq
    c :=
      { s.c with
        runMode := t.c.runMode
        forcePending := t.c.forcePending
        autoCount := t.c.autoCount
        streamCount := t.c.streamCount
        rspHold := t.c.rspHold }
    bw := { s.bw with shadow := { s.bw.shadow with proc := t.bw.shadow.proc } } }

/-- `t` differs from `s` in what a command may write; `hyst` and `addHoldoff` have no command. -/
def OnlyConfiguration (s t : State) : Prop :=
  t = commandWrites s t ∧ t.cfg.hyst = s.cfg.hyst ∧ t.cfg.addHoldoff = s.cfg.addHoldoff

theorem OnlyConfiguration.trans {s t u : State} (h : OnlyConfiguration s t)
    (h' : OnlyConfiguration t u) : OnlyConfiguration s u := by
  obtain ⟨hst, hhyst, hadd⟩ := h
  obtain ⟨htu, hhyst', hadd'⟩ := h'
  refine ⟨?_, hhyst'.trans hhyst, hadd'.trans hadd⟩
  calc u = commandWrites t u := htu
    _ = commandWrites (commandWrites s t) u := congrArg (commandWrites · u) hst
    _ = commandWrites s u := rfl

theorem onlyConfiguration_configureRings (cap : BitVec 33) (cs : List (Fin 4)) (s : State) :
    OnlyConfiguration s (configureRings cap cs s) := by
  rw [configureRings_eq]
  exact ⟨rfl, rfl, rfl⟩

theorem onlyConfiguration_setHorizontal (W pos add : BitVec 32) (s : State) :
    OnlyConfiguration s (setHorizontal W pos add s) := by
  rcases setHorizontal_cases W pos add s with ⟨_, hr⟩ | ⟨_, _, hr⟩ <;> rw [hr] <;>
    exact ⟨rfl, rfl, rfl⟩

theorem onlyConfiguration_setVertical (level hyst : Byte) (s : State) :
    OnlyConfiguration s (setVertical level hyst s) := by
  rcases setVertical_cases level hyst s with ⟨_, hr⟩ | ⟨_, hr⟩ <;> rw [hr] <;>
    exact ⟨rfl, rfl, rfl⟩

theorem onlyConfiguration_depthSet (samples : Nat) (s : State) :
    OnlyConfiguration s (depthSet samples s) :=
  have hwidth : OnlyConfiguration s (widthSet samples s) := ⟨rfl, rfl, rfl⟩
  (hwidth.trans (onlyConfiguration_configureRings _ _ _)).trans
    (onlyConfiguration_setHorizontal _ _ _ _)

/-- Settles O20, command by command, the compound ones operation by operation. -/
theorem commandsTouchOnlyConfiguration : Obligations.CommandsTouchOnlyConfiguration := by
  intro i s t hi h
  change OnlyConfiguration s t
  cases i with
  | run =>
    rcases execRun_cases s with ⟨_, hr⟩ | ⟨_, hr⟩ <;> cases hr.symm.trans h <;>
      exact ⟨rfl, rfl, rfl⟩
  | stop | force | setMode | setRate | setType | getRate =>
    cases h
    exact ⟨rfl, rfl, rfl⟩
  | setDepth samples =>
    rcases execSetDepth_cases samples s with ⟨_, hr⟩ | ⟨_, _, _, hr⟩ <;> cases hr.symm.trans h
    · exact ⟨rfl, rfl, rfl⟩
    · exact (onlyConfiguration_depthSet samples s).trans ⟨rfl, rfl, rfl⟩
  | setSrc channel =>
    rcases execSetSrc_cases channel s with ⟨_, hr⟩ | ⟨_, hr⟩ <;> cases hr.symm.trans h <;>
      exact ⟨rfl, rfl, rfl⟩
  | setDelay femtoseconds =>
    rcases execSetDelay_cases femtoseconds s with ⟨_, hr⟩ | ⟨pos, _, hr⟩ <;>
      cases hr.symm.trans h
    · exact ⟨rfl, rfl, rfl⟩
    · have hposition : OnlyConfiguration s (positionSet (.ofNat 32 pos) s) := ⟨rfl, rfl, rfl⟩
      exact hposition.trans (onlyConfiguration_setHorizontal _ _ _ _)
  | setLevel microvolts =>
    rcases execSetLevel_cases microvolts s with ⟨_, hr⟩ | ⟨level, hr⟩ <;> cases hr.symm.trans h
    · exact ⟨rfl, rfl, rfl⟩
    · have hlevel : OnlyConfiguration s (levelSet level s) := ⟨rfl, rfl, rfl⟩
      exact hlevel.trans (onlyConfiguration_setVertical _ _ _)
  | _ => cases hi

/-! ### The answer of `GET_RATE` (R223; 20_memory.md R90, R98) -/

/-- The answer is the opcode with bit 7 set, and the live rate (30_encoding.md R112). -/
theorem rateResponse_eq (p : Params) :
    rateResponse p = (0x8B : Byte) ++ BitVec.ofNat 56 (p.baseRateHz / p.nch) := rfl

theorem exec_getRate (s : State) :
    exec .getRate s = .next { s with c := { s.c with rspHold := some (rateResponse s.par) } } := rfl

/-- A turn of `CTL` that holds an answer enqueues it or waits. -/
theorem step_rspWait {s : State} {rest : List Turn} {r : Word64}
    (h : CtlTurn { s with c := { s.c with rspHold := none } } rest) (hr : s.c.rspHold = some r) :
    step s = .next (rspWait r { s with agenda := rest }) := by
  obtain ⟨hv, hu, ha, hc, -⟩ := h
  have hrun : ctlStopped s.c = false := hc
  refine (step_ctl (s := s) hv hu ha).trans ?_
  simp [ctlStep, hrun, hr]

/-- With room on `RSPQ` the turn enqueues the answer (R98). -/
theorem step_rspWait_of_room {s : State} {rest : List Turn} {r : Word64}
    (h : CtlTurn { s with c := { s.c with rspHold := none } } rest) (hr : s.c.rspHold = some r)
    (hroom : s.rspq.length < s.par.rspqDepth) :
    step s =
      .next { s with agenda := rest, rspq := s.rspq ++ [r], c := { s.c with rspHold := none } } :=
  (step_rspWait h hr).trans (congrArg _ (if_pos hroom))

/-- While `RSPQ` is full the turn leaves the answer held (R98). -/
theorem step_rspWait_of_full {s : State} {rest : List Turn} {r : Word64}
    (h : CtlTurn { s with c := { s.c with rspHold := none } } rest) (hr : s.c.rspHold = some r)
    (hfull : ¬s.rspq.length < s.par.rspqDepth) : step s = .next { s with agenda := rest } :=
  (step_rspWait h hr).trans (congrArg _ (if_neg hfull))

/-- Settles O19: the first turn makes the answer ready, the second finds room for it. -/
theorem getRateAnswers : Obligations.GetRateAnswers := by
  refine ⟨exec_getRate, fun s rest r hturn hr => ?wait,
    fun s more w q hturn ht hp hq hd hroom => ?run⟩
  case wait =>
    split
    · next hroom => exact step_rspWait_of_room hturn hr hroom
    · next hfull => exact step_rspWait_of_full hturn hr hfull
  case run =>
    have hready := (step_drain hturn ht hp).trans (phaseCmd_of_decodes hq hd)
    rw [exec_getRate] at hready
    obtain ⟨hv, hu, -, hc, hnone⟩ := hturn
    have hanswered := step_rspWait_of_room (r := rateResponse s.par) (rest := more)
      (s := { s with
        agenda := .ctl :: more
        cmdq := q
        c := { s.c with rspHold := some (rateResponse s.par) } })
      ⟨hv, hu, rfl, hc, rfl⟩ rfl hroom
    have hkept : { s.c with rspHold := none } = s.c := by rw [← hnone]
    rw [run_succ hready, run_succ hanswered, run_zero]
    simp only [hkept, rateResponse_eq]

end Sys2Proof.Machine
end

section
/-!
PROOFS. Every step of the assembled core is taken (O48): under the invariant no operation stops the machine and
no Fatal is raised, but for the consumer that opens again with a request outstanding. With it, the feed of the
rings (O40), which every block must go through.
-/

namespace Sys2Proof.Machine

/-! ### Feeding the rings (44_controller_sequencer.md R245) -/

theorem channels_nodup (p : Params) : (channels p).Nodup := List.Nodup.filter _ (by decide)

/-- A ring with capacity takes any lane (41_ring_buffer.md R153). -/
theorem writeRing_of_cap {c : Fin 4} {s : State} (h : s.rb[c].cap ≠ 0) (lane : List Byte) :
    writeRing c lane s = .ok () (withRing c (ringWritten s.rb[c] lane) s) :=
  if_neg fun hn => h hn.1

/-- Rings with capacity each take their lane, and the others stay. -/
theorem feedRings_of_cap {cs : List (Fin 4)} (hcs : cs.Nodup) {s : State}
    (hcap : ∀ c ∈ cs, s.rb[c].cap ≠ 0) :
    ∃ rb, feedRings cs s = .ok () { s with rb := rb } ∧
      ∀ c : Fin 4, rb[c] =
        if c ∈ cs then ringWritten s.rb[c] (laneOf s.c.lanes c.val) else s.rb[c] := by
  induction cs generalizing s with
  | nil => exact ⟨s.rb, rfl, fun c => by simp⟩
  | cons d cs ih =>
    obtain ⟨hd, hcs⟩ := List.nodup_cons.1 hcs
    obtain ⟨hcapd, hcap⟩ := List.forall_mem_cons.1 hcap
    have kept {c : Fin 4} (hc : c ≠ d) :
        (withRing d (ringWritten s.rb[d] (laneOf s.c.lanes d.val)) s).rb[c] = s.rb[c] := by
      simp [Vector.getElem_set_ne _ _ (Fin.val_ne_of_ne hc.symm)]
    obtain ⟨rb, hfeed, hrb⟩ := ih hcs
      (s := withRing d (ringWritten s.rb[d] (laneOf s.c.lanes d.val)) s)
      fun c hc => by
        rw [kept fun h => hd (h ▸ hc)]
        exact hcap c hc
    refine ⟨rb, by simpa [feedRings, writeRing_of_cap hcapd] using hfeed, fun c => ?_⟩
    rw [hrb c]
    by_cases hc : c = d
    · subst hc
      simp [hd]
    · simp only [kept hc, withRing_c, List.mem_cons, hc, false_or]

/-- The rings after a feed: each ring in use has taken its lane (R245). -/
def fedRings (lanes : List (List Byte)) (s : State) : Vector Ring 4 :=
  Vector.ofFn fun c : Fin 4 =>
    if c.val < s.par.nch then ringWritten s.rb[c] (laneOf lanes c.val) else s.rb[c]

theorem feedRings_channels {s : State} (hcap : ∀ c : Fin 4, c.val < s.par.nch → s.rb[c].cap ≠ 0) :
    feedRings (channels s.par) s = .ok () { s with rb := fedRings s.c.lanes s } := by
  obtain ⟨rb, hfeed, hrb⟩ := feedRings_of_cap (channels_nodup s.par)
    fun c hc => hcap c ((mem_channels _ _).1 hc)
  have heq : rb = fedRings s.c.lanes s := by
    refine Vector.ext fun c hc => ?_
    simpa [fedRings] using hrb ⟨c, hc⟩
  rw [hfeed, heq]

/-- `P_FEED` demultiplexes the block and feeds every ring in use (R245). -/
theorem phaseFeed_of_cap {s : State} (hv : s.par.valid = true)
    (hcap : ∀ c : Fin 4, c.val < s.par.nch → s.rb[c].cap ≠ 0) {lanes : List (List Byte)}
    (hlanes : lanes = demuxLanes (fillFree s.free (blkCells s)) s.par.nch) :
    phaseFeed s =
      .next
        { s with
          free := s.free + s.par.blockBytes
          rb := fedRings lanes s
          c := { s.c with delivered := false, lanes := lanes, phase := .trig } } := by
  subst hlanes
  unfold phaseFeed
  rcases demux_cases s.par.nch { s with c := { s.c with delivered := false } } with
    ⟨-, hr⟩ | ⟨hbad, -⟩
  · rw [hr]
    have hfeed := feedRings_channels (s := { s with
      free := s.free + s.par.blockBytes
      c := { s.c with
        delivered := false
        lanes := demuxLanes (fillFree s.free (blkCells s)) s.par.nch } }) hcap
    exact congrArg (Res.outcome fun _ t => gotoPhase .trig t) hfeed
  · exact absurd (paramsInDomain_of_valid hv).nch hbad

/-- Settles O40: the feed of a held block, none of whose bytes is a free value. -/
theorem feedPhaseStep : Obligations.FeedPhaseStep := by
  intro s rest block hturn ht hp hblk hlen hcap
  have hbytes : fillFree s.free (blkCells s) = block := by
    rw [blkCells_of_held hblk hlen, fillFree_map_some]
  have hphase : step s = phaseFeed { s with agenda := rest } := by
    rw [step_phase hturn ht]
    simp only [runPhase, hp]
  rw [hphase]
  exact phaseFeed_of_cap (s := { s with agenda := rest }) hturn.1 hcap (by rw [← hbytes]; rfl)

/-! ### The windows lie in the rings and in the regions (20_memory.md R73, R79) -/

/-- The regions are two, by the shadow header's selector (20_memory.md R72). -/
theorem ShadowInv.exists_regionBase {s : State} (h : ShadowInv s) :
    ∃ base, regionBase s.par s.bw.shadow.activeRegion = some base := by
  obtain ⟨-, -, hregion, -⟩ := h
  rcases hregion with h | h <;> rw [h] <;> exact ⟨_, rfl⟩

theorem acqRegion_of_base {s : State} {base : Nat}
    (h : regionBase s.par s.bw.shadow.activeRegion = some base) : acqRegion s = .ok base s := by
  simp only [acqRegion, h]

/-- A channel's window lies in its region (20_memory.md R73). -/
theorem windowAddr_bounds {s : State} (hcfg : CfgInv s) {sel : Byte} {base : Nat}
    (hbase : regionBase s.par sel = some base) (c : Fin 4) {k : Nat} (hk : k < s.cfg.W.toNat) :
    hdrBytes ≤ windowAddr s base c k ∧ windowAddr s base c k < segBytes s.par := by
  obtain ⟨hlow, hhigh⟩ := regionBase_bounds hbase
  obtain ⟨-, hmax, -⟩ := hcfg
  have hwindow : c.val * s.cfg.W.toNat + k < regionBytes s.par :=
    calc c.val * s.cfg.W.toNat + k < (c.val + 1) * s.cfg.W.toNat := by rw [Nat.succ_mul]; omega
      _ ≤ maxCh * s.par.maxw := Nat.mul_le_mul c.isLt hmax
      _ = regionBytes s.par := (Nat.mul_one _).symm
  unfold windowAddr
  omega

theorem storeByte_of_bounds {a : Nat} (b : Byte) {s : State} (hlow : hdrBytes ≤ a)
    (hhigh : a < segBytes s.par) : storeByte a b s = .ok () { s with seg := s.seg.write a b } :=
  if_pos ⟨hlow, hhigh⟩

/-- A byte of a window is stored at its place in the acquiring region (45_bridge.md R284). -/
theorem storeWindowByte_of_base {s : State} (hcfg : CfgInv s) {base : Nat}
    (hbase : regionBase s.par s.bw.shadow.activeRegion = some base) (c : Fin 4) {k : Nat}
    (hk : k < s.cfg.W.toNat) (b : Byte) :
    storeWindowByte c k b s = .ok () { s with seg := s.seg.write (windowAddr s base c k) b } := by
  obtain ⟨hlow, hhigh⟩ := windowAddr_bounds hcfg hbase c hk
  simp only [storeWindowByte, acqRegion_of_base hbase]
  exact storeByte_of_bounds b hlow hhigh

/-- A window that ends inside the last lane lies in its ring (41_ring_buffer.md R158). -/
theorem readRing_of_ringsInv {s : State} (hrings : RingsInv s) {c : Fin 4} (hc : c.val < s.par.nch)
    {endOffset : Nat} (hend : endOffset ≤ laneLen s.par) :
    readRing c s.cfg.W.toNat endOffset s =
      .ok (fillFree s.free (windowCells s.rb[c] s.cfg.W.toNat endOffset))
        (drawn s.cfg.W.toNat s) := by
  obtain ⟨hcap, -⟩ := hrings c hc
  exact if_neg (by omega)

/-! ### Every step is taken (44_controller_sequencer.md R262) -/

/-- A sound micro-step is taken. -/
theorem runMicro_proceeds {m : Micro} {s : State} (hd : DataInv s) (hm : MicroOk s m) :
    ∃ t, runMicro m s = .next t := by
  obtain ⟨base, hbase⟩ := hd.shadow.exists_regionBase
  cases m with
  | goto | scan | forceServed | streamTaken | dataWritten | swapPoll | swapRelease | markDelivered =>
    exact ⟨_, rfl⟩
  | deliverEnds ends => cases ends <;> exact ⟨_, rfl⟩
  | endDelivered =>
    simp only [runMicro]
    split <;> exact ⟨_, rfl⟩
  | serviceForce =>
    simp only [runMicro]
    split
    · split <;> exact ⟨_, rfl⟩
    · exact ⟨_, rfl⟩
  | autoTimeout =>
    simp only [runMicro]
    split
    · exact ⟨_, rfl⟩
    · split <;> exact ⟨_, rfl⟩
  | streamLoop | swapPublish =>
    simp only [runMicro]
    split <;> exact ⟨_, rfl⟩
  | copyWindow =>
    simp only [runMicro, acqRegion_of_base hbase]
    exact ⟨_, rfl⟩
  | readWindow endOffset c =>
    simp only [runMicro, readRing_of_ringsInv hd.rings hm.1 hm.2.le]
    exact ⟨_, rfl⟩
  | storeBytes c k bytes =>
    cases bytes with
    | nil => exact ⟨_, rfl⟩
    | cons b bs =>
      have hk : k < s.cfg.W.toNat := by
        have hend := hm.2
        rw [List.length_cons] at hend
        omega
      simp only [runMicro, storeWindowByte_of_base hd.cfg hbase c hk b]
      exact ⟨_, rfl⟩

/-- The rings in use have capacity. -/
theorem RingsInv.cap_ne_zero {s : State} (h : RingsInv s) {c : Fin 4} (hc : c.val < s.par.nch) :
    s.rb[c].cap ≠ 0 := by
  obtain ⟨hcap, hwr, -⟩ := h c hc
  intro hzero
  have hnone : s.rb[c].cap.toNat = 0 := congrArg BitVec.toNat hzero
  omega

/-- The step of every phase is taken: a command is accepted or rejected, and every ring in use can be fed. -/
theorem runPhase_proceeds {s : State} (hd : DataInv s) : ∃ t, runPhase s = .next t := by
  unfold runPhase
  cases s.c.phase with
  | check | wait | trig | ret | swap | exit => exact ⟨_, rfl⟩
  | feed => exact ⟨_, phaseFeed_of_cap hd.valid (fun _ => hd.rings.cap_ne_zero) rfl⟩
  | cmd =>
    rcases phaseCmd_cases s with ⟨_, hr⟩ | ⟨w, q, i, _, hdecode, hr⟩ | ⟨w, q, _, _, hr⟩
    · exact ⟨_, hr⟩
    · obtain ⟨-, -, -, hhyst, -⟩ := hd.cfg
      obtain ⟨t, ht, -⟩ := commandsAcceptOrReject i { s with cmdq := q }
        (isCommand_of_decodeCmd hdecode) hd.valid hhyst
      exact ⟨t, hr.trans ht⟩
    · exact ⟨_, hr⟩

/-- Every turn of `CTL` is taken. -/
theorem ctlStep_proceeds {s : State} (hd : DataInv s) (hs : SequencerInv s) :
    ∃ t, ctlStep s = .next t := by
  rcases ctlStep_cases s with ⟨_, hr⟩ | ⟨_, r, _, hr⟩ | ⟨_, _, m, rest, ht, hr⟩ | ⟨_, _, _, hr⟩
  · exact ⟨_, hr⟩
  · exact ⟨_, hr⟩
  · have hm : MicroOk s m := hs.1 m (ht ▸ List.mem_cons_self)
    obtain ⟨t, h⟩ := runMicro_proceeds (hd.same (.withTodo rest s)) (hm.congr rfl rfl)
    exact ⟨t, hr.trans h⟩
  · obtain ⟨t, h⟩ := runPhase_proceeds hd
    exact ⟨t, hr.trans h⟩

/-- An operation of the reader is taken, but for a re-open with a request outstanding (45_bridge.md R310). -/
theorem exec_reader_proceeds {op : ReaderOp} {s : State} (hs : ReaderInv s) :
    (∃ t, exec (readerInstr op) s = .next t) ∨
      exec (readerInstr op) s = .refused .reopenOutstanding := by
  cases op with
  | openBridge =>
    simp only [readerInstr, exec, execRdrOpen]
    split
    · exact .inr rfl
    · split <;> exact .inl ⟨_, rfl⟩
  | requestAndWait =>
    simp only [readerInstr, exec, execRdrRequestAndWait]
    split
    · exact .inl ⟨_, rfl⟩
    · split <;> exact .inl ⟨_, rfl⟩
  | readHeader =>
    simp only [readerInstr, exec, execRdrReadHeader]
    split <;> exact .inl ⟨_, rfl⟩
  | readRegion =>
    simp only [readerInstr, exec, execRdrReadRegion]
    split
    · split
      · exact .inl ⟨_, rfl⟩
      · rename_i r hr
        obtain ⟨-, -, -, hend⟩ := hs r hr
        rcases readRegionByte_cases r s with ⟨_, _, hb⟩ | ⟨_, _, hb⟩ | ⟨hbeyond, _⟩
        · exact .inl ⟨_, by rw [hb]; rfl⟩
        · exact .inl ⟨_, by rw [hb]; rfl⟩
        · omega
    · exact .inl ⟨_, rfl⟩

/-- Every turn is taken, but for a re-open with a request outstanding. -/
theorem runTurn_proceeds (turn : Turn) {s : State} (hd : DataInv s) (hs : SequencerInv s)
    (hr : ReaderInv s) :
    (∃ t, runTurn turn s = .next t) ∨ runTurn turn s = .refused .reopenOutstanding := by
  cases turn with
  | ctl => exact .inl (ctlStep_proceeds hd hs)
  | con op =>
    simp only [runTurn, conIssue]
    split
    · exact .inl ⟨_, rfl⟩
    · exact exec_reader_proceeds (by cases op <;> exact hr)
  | conRead =>
    simp only [runTurn, conRead]
    split
    · exact exec_reader_proceeds (op := .readRegion) hr
    · exact .inl ⟨_, rfl⟩
  | src | srcTake | conWait | hostCmd | hostTake | hostCancel => exact .inl ⟨_, rfl⟩

/-- Settles O48: every step is taken, and the invariant it keeps (O47) holds of no halted core. -/
theorem fatalIsUnreachable : Obligations.FatalIsUnreachable := by
  intro s hs
  have hkept := invariantIsKept s
  obtain ⟨hv, hu, _, _, hcfg, hrings, hengine, hengineCfg, hshadow, hpublished, hcount, _,
    hreader, hsequencer⟩ := id hs
  have hd : DataInv s :=
    ⟨hv, hcfg, hrings, hengine, hengineCfg, hshadow, hpublished, hcount⟩
  obtain ⟨_, _, hframe⟩ := turnTaken_frame s
  have hc : (turnTaken s).c = s.c := by rw [hframe]
  have hreader' : ReaderInv (turnTaken s) := by rw [hframe]; exact hreader
  rcases runTurn_proceeds (nextTurn s) (hd.same (.turnTaken s))
    (hsequencer.congr hc (.turnTaken s)) hreader' with ⟨t, ht⟩ | hr
  · have hstep := (step_turn hv hu).trans ht
    obtain ⟨_, _, hhalted, hfatal, -⟩ := hkept t hs hstep
    exact .inl ⟨t, hstep, hhalted, hfatal⟩
  · exact .inr ((step_turn hv hu).trans hr)

end Sys2Proof.Machine
end

section
/-!
PROOFS. The sequencer's phases and the entries of its work list, turn by turn (O39, O41, O42, O43).
-/

namespace Sys2Proof.Machine

/-! ### A turn of `CTL` (44_controller_sequencer.md R240) -/

/-- The state with the turns placed and the work still to do. -/
def atWork (agenda : List Turn) (todo : List Micro) (s : State) : State :=
  { s with agenda := agenda, c := { s.c with todo := todo } }

theorem eq_atWork {s : State} {agenda : List Turn} {todo : List Micro} (ha : s.agenda = agenda)
    (ht : s.c.todo = todo) : s = atWork agenda todo s := by
  subst ha ht
  rfl

/-- `CTL` is free to work: it has neither halted nor exited, and holds no response. -/
structure CtlFree (s : State) : Prop where
  valid : s.par.valid = true
  uop : s.uop = none
  running : ctlStopped s.c = false
  held : s.c.rspHold = none

theorem CtlTurn.free {s : State} {rest : List Turn} (h : CtlTurn s rest) : CtlFree s :=
  have ⟨hv, hu, _, hc, hr⟩ := h
  ⟨hv, hu, hc, hr⟩

theorem CtlFree.congr {s t : State} (hpar : t.par = s.par) (huop : t.uop = s.uop) (hc : t.c = s.c)
    (h : CtlFree s) : CtlFree t :=
  ⟨hpar ▸ h.valid, huop ▸ h.uop, hc ▸ h.running, hc ▸ h.held⟩

/-- A turn of `CTL` with work left over does its first entry. -/
theorem step_work {s : State} {rest : List Turn} {m : Micro} {work : List Micro}
    (h : CtlTurn s rest) (ht : s.c.todo = m :: work) : step s = runMicro m (atWork rest work s) :=
  have ⟨hv, hu, ha, hc, hr⟩ := h
  step_micro hv hu ha hc hr ht

/-- A run goes on from what the first entry of the work list leaves. -/
theorem run_work {s t : State} {rest : List Turn} {m : Micro} {work : List Micro} (h : CtlFree s)
    (hm : runMicro m (atWork rest work s) = .next t) (k : Nat) :
    Host.Core.run Sys2Proof.core (k + 1) (atWork (.ctl :: rest) (m :: work) s) =
      Host.Core.run Sys2Proof.core k t :=
  have hturn : CtlTurn (atWork (.ctl :: rest) (m :: work) s) rest :=
    ⟨h.valid, h.uop, rfl, h.running, h.held⟩
  run_succ ((step_work hturn rfl).trans hm) k

/-! ### A turn of `CTL` in each phase that completes at once (R241 to R243, R247, R259, R260) -/

section Phases

variable {s : State} {rest : List Turn} (h : CtlTurn s rest) (ht : s.c.todo = [])

include h ht

theorem step_check (hp : s.c.phase = .check) :
    step s = .next (phaseCheck { s with agenda := rest }) := by
  rw [step_phase h ht]
  simp only [runPhase, hp]

theorem step_wait (hp : s.c.phase = .wait) :
    step s = .next (phaseWait { s with agenda := rest }) := by
  rw [step_phase h ht]
  simp only [runPhase, hp]

theorem step_trig (hp : s.c.phase = .trig) :
    step s = .next (phaseTrig { s with agenda := rest }) := by
  rw [step_phase h ht]
  simp only [runPhase, hp]

theorem step_return (hp : s.c.phase = .ret) :
    step s = .next (phaseReturn { s with agenda := rest }) := by
  rw [step_phase h ht]
  simp only [runPhase, hp]

theorem step_swap (hp : s.c.phase = .swap) :
    step s = .next (atWork rest (swapProg ++ [.goto .check]) s) := by
  rw [step_phase h ht]
  simp only [runPhase, hp]
  rfl

end Phases

/-! ### `P_TRIG` (R247, R248, R258) -/

theorem phaseTrig_of_stopped {s : State} (h : s.c.runMode = false) :
    phaseTrig s = gotoPhase .ret s :=
  if_neg (Bool.eq_false_iff.1 h)

theorem phaseTrig_of_stream {s : State} (h : s.c.runMode = true) (hm : s.cfg.mode = .stream) :
    phaseTrig s =
      { s with
        c :=
          { s.c with
            streamCount := s.c.streamCount + .ofNat 64 (laneLen s.par)
            todo := [.streamLoop, .goto .ret] } } :=
  (if_pos h).trans (if_pos hm)

theorem phaseTrig_of_trigger {s : State} (h : s.c.runMode = true) {mode : TrigMode}
    (hm : s.cfg.mode = mode) (hne : mode ≠ .stream) :
    phaseTrig s = withTodo (triggerBranch mode) s := by
  subst hm
  exact (if_pos h).trans (if_neg hne)

/-- Settles O41: the run mode first, then the trigger mode. -/
theorem triggerPhaseStep : Obligations.TriggerPhaseStep := by
  intro s rest hturn ht hp
  have hstep := step_trig hturn ht hp
  have trigger {mode : TrigMode} := phaseTrig_of_trigger (s := { s with agenda := rest }) (mode := mode)
  refine ⟨fun hrun => ?stopped, fun hrun hm => ?stream, fun hrun hm => ?auto, fun hrun hm => ?trigger⟩
  case stopped => exact hstep.trans (congrArg _ (phaseTrig_of_stopped hrun))
  case stream => exact hstep.trans (congrArg _ (phaseTrig_of_stream hrun hm))
  case auto => exact hstep.trans (congrArg _ (trigger hrun hm nofun))
  case trigger =>
    rcases hm with hm | hm <;> exact hstep.trans (congrArg _ (trigger hrun hm nofun))

/-! ### Capture ends (R248, R251, R252, R254) -/

/-- Settles O42, one clause per entry of the work list that the scan leads to. -/
theorem captureEndsAreDelivered : Obligations.CaptureEndsAreDelivered := by
  intro s rest work hturn
  exact ⟨step_work hturn, step_work hturn, fun e es => step_work hturn, fun es => step_work hturn⟩

/-! ### Force, timeout and Stream (R256, R257, R258) -/

theorem streamDue_iff (p : Params) (count W : Nat) :
    streamDue p count W = true ↔ W < count ∨ (p.streamCmpGe = true ∧ count = W) := by
  simp [streamDue]

theorem autoDue_iff (p : Params) (count : Nat) :
    autoDue p count = true ↔ p.autoTimeoutSamples ≤ count := decide_eq_true_iff

/-- The Auto timeout counts a lane, and places a `Deliver` when the count has run out. -/
theorem runMicro_autoTimeout {s : State} (h : s.c.delivered = false) {n : Word64}
    (hn : n = s.c.autoCount + .ofNat 64 (laneLen s.par)) :
    runMicro .autoTimeout s =
      .next
        { s with
          c :=
            { s.c with
              autoCount := n
              todo :=
                if s.par.autoTimeoutSamples ≤ n.toNat then deliverProg 0 false ++ s.c.todo
                else s.c.todo } } := by
  subst hn
  refine (if_neg (Bool.eq_false_iff.1 h)).trans ?_
  split
  · next hdue => rw [if_pos ((autoDue_iff _ _).1 hdue)]; rfl
  · next hdue => rw [if_neg (mt (autoDue_iff _ _).2 hdue)]

/-- The Stream loop places a `Deliver` while a window is counted. -/
theorem runMicro_streamLoop (s : State) :
    runMicro .streamLoop s =
      .next
        (withTodo
          (if s.cfg.W.toNat < s.c.streamCount.toNat ∨
              (s.par.streamCmpGe = true ∧ s.c.streamCount.toNat = s.cfg.W.toNat) then
            deliverProg 0 false ++ .streamTaken :: s.c.todo
          else s.c.todo) s) := by
  simp only [runMicro]
  split
  · next hdue => rw [if_pos ((streamDue_iff _ _ _).1 hdue)]
  · next hdue => rw [if_neg (mt (streamDue_iff _ _ _).2 hdue)]; rfl

theorem runMicro_forceServed (s : State) :
    runMicro .forceServed s =
      .next
        { s with
          c :=
            { s.c with
              runMode := s.c.runMode && s.cfg.mode != .single
              forcePending := false } } := by
  have hmode : (s.c.runMode && s.cfg.mode != .single) =
      if s.cfg.mode = .single then false else s.c.runMode := by
    split <;> simp [*]
  rw [hmode]
  rfl

/-- Settles O43, one clause per entry of the work list, split by its conditions. -/
theorem forceTimeoutAndStreamDeliveries : Obligations.ForceTimeoutAndStreamDeliveries := by
  refine ⟨fun s rest work hturn =>
      ⟨fun ht => ⟨fun hf => ?noForce, fun hf hd => ?dropped, fun hf hd => ?forced⟩, fun ht => ?served⟩,
    fun s rest work n hturn hn =>
      ⟨fun ht => ⟨fun hd => ?noTimeout, fun hd => ?timeout⟩, fun ht => ?stream, fun ht => ?taken⟩⟩
  case noForce => exact (step_work hturn ht).trans (if_neg (Bool.eq_false_iff.1 hf))
  case dropped => exact (step_work hturn ht).trans ((if_pos hf).trans (if_pos hd))
  case forced =>
    exact (step_work hturn ht).trans ((if_pos hf).trans (if_neg (Bool.eq_false_iff.1 hd)))
  case served => exact (step_work hturn ht).trans (runMicro_forceServed _)
  case noTimeout => exact (step_work hturn ht).trans (if_pos hd)
  case timeout =>
    exact (step_work hturn ht).trans (runMicro_autoTimeout (s := atWork rest work s) hd hn)
  case stream => exact (step_work hturn ht).trans (runMicro_streamLoop _)
  case taken => exact step_work hturn ht

/-! ### The swap check as work still to do (R243, R260; 45_bridge.md R287) -/

theorem swapPoll_atWork (agenda : List Turn) (todo : List Micro) (s : State) :
    swapPoll (atWork agenda todo s) = atWork agenda todo (swapPoll s) := by
  unfold swapPoll
  split
  · next h => rw [if_pos (show s.bw.reqPending = true from h)]
  · next h => rw [if_neg (show ¬s.bw.reqPending = true from h)]; rfl

/-- The swap check run to its end is `BRG.SWITCH_IF_NEEDED`, in two turns of `CTL` or three where a swap
happens. -/
theorem run_swapProg {s : State} (h : CtlFree s) {swap : Bool} (hswap : swap = (switchIfNeeded s).1)
    (more : List Turn) (work : List Micro) (k : Nat) :
    Host.Core.run Sys2Proof.core (k + if swap then 3 else 2)
        (atWork ([.ctl, .ctl, .ctl] ++ more) (swapProg ++ work) s) =
      Host.Core.run Sys2Proof.core k
        (atWork (if swap then more else .ctl :: more) work (switchIfNeeded s).2) := by
  have hfree : CtlFree (swapPoll s) := h.congr (by simp) (by simp) (by simp)
  have poll (rest : List Turn) (todo : List Micro) :
      runMicro .swapPoll (atWork rest todo s) = .next (atWork rest todo (swapPoll s)) :=
    congrArg _ (swapPoll_atWork rest todo s)
  rcases switchIfNeeded_cases s with ⟨hdue, hr⟩ | ⟨hdue, hr⟩ <;> rw [hr] at hswap ⊢ <;> subst hswap
  · have publish (rest : List Turn) (todo : List Micro) :
        runMicro .swapPublish (atWork rest todo (swapPoll s)) =
          .next (atWork rest (.swapRelease :: todo) (swapPublish (swapPoll s))) :=
      if_pos hdue
    have hfree' : CtlFree (swapPublish (swapPoll s)) :=
      .congr (s := swapPoll s) rfl rfl rfl hfree
    exact (run_work h (poll _ _) (k + 2)).trans
      ((run_work hfree (publish _ _) (k + 1)).trans (run_work hfree' rfl k))
  · have noSwap (rest : List Turn) (todo : List Micro) :
        runMicro .swapPublish (atWork rest todo (swapPoll s)) =
          .next (atWork rest todo (swapPoll s)) :=
      if_neg (Bool.eq_false_iff.1 hdue)
    exact (run_work h (poll _ _) (k + 1)).trans (run_work hfree (noSwap _ _) k)

theorem switchIfNeeded_frame (s : State) :
    (switchIfNeeded s).2.par = s.par ∧ (switchIfNeeded s).2.uop = s.uop ∧
      (switchIfNeeded s).2.c = s.c := by
  rcases switchIfNeeded_cases s with ⟨_, hr⟩ | ⟨_, hr⟩ <;> rw [hr] <;> simp

/-- A turn placed behind the swap check comes next, whether a swap happened or not. -/
theorem turns_after_swap (swap : Bool) (turn : Turn) (more : List Turn) :
    (if swap then turn :: more else turn :: turn :: more) =
      turn :: if swap then more else turn :: more := by
  cases swap <;> rfl

/-- A placed swap check, and the way back to `P_CHECK` behind it, run to their end. -/
theorem run_swapCheck {s : State} (h : CtlFree s) (ht : s.c.todo = []) {swap : Bool}
    (hswap : swap = (switchIfNeeded s).1) (more : List Turn) :
    Host.Core.run Sys2Proof.core (if swap then 4 else 3)
        (atWork ([.ctl, .ctl, .ctl, .ctl] ++ more) (swapProg ++ [.goto .check]) s) =
      .next
        { (switchIfNeeded s).2 with
          agenda := if swap then more else .ctl :: more
          c := { s.c with phase := .check } } := by
  obtain ⟨hpar, huop, hc⟩ := switchIfNeeded_frame s
  have hsteps : (if swap then 4 else 3) = 1 + if swap then 3 else 2 := by cases swap <;> rfl
  have hplace : { s.c with phase := .check } =
      { (switchIfNeeded s).2.c with todo := [], phase := .check } := by rw [hc, ← ht]
  rw [hsteps, hplace]
  refine (run_swapProg h hswap (.ctl :: more) [.goto .check] 1).trans ?_
  rw [turns_after_swap]
  exact run_work (h.congr hpar huop hc) rfl 0

/-! ### The other phases (R241 to R243, R259, R260) -/

/-- With no block and no swap check on the timeout exit, `P_WAIT` goes back to `P_CHECK` (R243). -/
theorem phaseWait_of_timeout {s : State} (hq : s.blkq = []) (h : s.par.swapOnIdle = false) :
    phaseWait s = gotoPhase .check s := by
  simp [phaseWait, hq, idle, h]

/-- With no block the timeout exit may place a swap check (R243). -/
theorem phaseWait_of_timeout_swap {s : State} (hq : s.blkq = []) (h : s.par.swapOnIdle = true) :
    phaseWait s = withTodo (swapProg ++ [.goto .check]) s := by
  simp only [phaseWait, hq, idle, h, if_true]

/-- A block at the head of `BLKQ` is taken (R242). -/
theorem phaseWait_of_block {s : State} {block : List Byte} {q : List (List Byte)}
    (hq : s.blkq = block :: q) :
    phaseWait s = { s with blkq := q, c := { s.c with blk := some block, phase := .feed } } := by
  simp only [phaseWait, hq]

theorem phaseCheck_eq (s : State) :
    phaseCheck s = gotoPhase (if s.c.cancel then .exit else .cmd) s := by
  unfold phaseCheck
  split <;> rfl

theorem phaseReturn_of_held {s : State} {block : List Byte} (h : s.c.blk = some block) :
    phaseReturn s =
      { s with
        pool := s.pool ++ [block]
        c := { s.c with blk := none, lanes := [], phase := .swap } } := by
  simp only [phaseReturn, h, Option.toList_some]

/-- Settles O39: phase by phase, and the placed swap check run to its end. -/
theorem phaseTransitions : Obligations.PhaseTransitions := by
  have idleSwap {s : State} {rest : List Turn} (hturn : CtlTurn s rest) (ht : s.c.todo = [])
      (hp : s.c.phase = .wait) (hq : s.blkq = []) (hswap : s.par.swapOnIdle = true) :
      step s = .next (atWork rest (swapProg ++ [.goto .check]) s) :=
    (step_wait hturn ht hp).trans (congrArg _ (phaseWait_of_timeout_swap hq hswap))
  refine ⟨fun s rest hturn ht hp => ?check, fun s rest hturn ht hp =>
      ⟨fun block q hq => ?block, fun hq hswap => ?timeout, idleSwap hturn ht hp⟩,
    fun s rest hturn ht => ⟨fun block hp hblk => ?ret, step_swap hturn ht⟩,
    fun s rest work p hturn ht => step_work hturn ht,
    fun s more swap hturn ht hplace hswap => ?swapCheck⟩
  case check => exact (step_check hturn ht hp).trans (congrArg _ (phaseCheck_eq _))
  case block => exact (step_wait hturn ht hp).trans (congrArg _ (phaseWait_of_block hq))
  case timeout => exact (step_wait hturn ht hp).trans (congrArg _ (phaseWait_of_timeout hq hswap))
  case ret => exact (step_return hturn ht hp).trans (congrArg _ (phaseReturn_of_held hblk))
  case swapCheck =>
    have hstep : step s = .next (atWork ([.ctl, .ctl, .ctl, .ctl] ++ more)
        (swapProg ++ [.goto .check]) s) := by
      rcases hplace with hp | ⟨hp, hq, hidle⟩
      · exact step_swap hturn ht hp
      · exact idleSwap hturn ht hp hq hidle
    have hsteps : (if swap then 5 else 4) = (if swap then 4 else 3) + 1 := by cases swap <;> rfl
    rw [hsteps, run_succ hstep]
    exact run_swapCheck hturn.free ht hswap more

end Sys2Proof.Machine
end

section
/-!
PROOFS. What a controller that has halted or exited keeps (O12): with `CTL` stopped only `SRC`, `HOST` and `CON`
step, and none of them writes what it owns.
-/

namespace Sys2Proof.Machine

/-- What every step of an agent other than `CTL` keeps: the data, the controller but for the cancellation
input, and the error log; the semaphores move the consumer's way only (60_exceptions.md R346). -/
structure CtlKept (s t : State) : Prop where
  data : SameData s t
  ctl : t.c = { s.c with cancel := t.c.cancel } := by rfl
  err : t.err = s.err := by rfl
  semReq : s.semReq ≤ t.semReq := by exact Nat.le_refl _
  semResp : t.semResp ≤ s.semResp := by exact Nat.le_refl _

theorem CtlKept.trans {s t u : State} (h : CtlKept s t) (h' : CtlKept t u) : CtlKept s u where
  data := h.data.trans h'.data
  ctl := by rw [h'.ctl, h.ctl]
  err := h'.err.trans h.err
  semReq := h.semReq.trans h'.semReq
  semResp := h'.semResp.trans h.semResp

theorem CtlKept.turnTaken (s : State) : CtlKept s (turnTaken s) := by
  obtain ⟨_, _, hr⟩ := turnTaken_frame s
  rw [hr]
  exact { data := {} }

theorem CtlKept.readerOperand (op : ReaderOp) (s : State) : CtlKept s (readerOperand op s) := by
  cases op <;> exact { data := {} }

/-- The wait step takes a response or none (45_bridge.md R300). -/
theorem CtlKept.waitStep (s : State) : CtlKept s (waitStep s) := by
  rcases waitStep_cases s with ⟨_, hr⟩ | ⟨_, hr⟩ <;> rw [hr]
  · exact { data := {}, semResp := Nat.sub_le _ _ }
  · exact { data := {} }

/-- An operation of the reader only releases requests and takes responses. -/
theorem ReaderStep.ctlKept {i : Instr} {s t : State} (h : ReaderStep s i t) : CtlKept s t := by
  cases h with
  | waited => exact .waitStep s
  | requested =>
    refine { data := {}, semReq := ?_ }
    rw [requestStep_semReq]
    split <;> omega
  | regionStarted =>
    rcases startRegionRead_cases s with ⟨_, _, hr⟩ | ⟨_, hr⟩ <;> rw [hr] <;> exact { data := {} }
  | _ => exact { data := {} }

/-- A stopped `CTL` takes its turn by doing nothing (44_controller_sequencer.md R240). -/
theorem ctlStep_of_stopped {s : State} (h : ctlStopped s.c = true) : ctlStep s = .next s :=
  if_pos h

/-- No turn changes what a stopped controller owns. -/
theorem TurnStep.ctlKept {turn : Turn} {s t : State} (hc : ctlStopped s.c = true)
    (h : TurnStep s turn t) : CtlKept s t := by
  cases h with
  | ctl _ h =>
    cases (ctlStep_of_stopped hc).symm.trans h
    exact { data := .refl s }
  | readerIssues op _ _ _ h => exact (CtlKept.readerOperand op s).trans h.ctlKept
  | readerWaits => exact .waitStep s
  | readerReads _ h => exact h.ctlKept
  | readerBusy | cancelled | queued => exact { data := {} }

/-- Of the operations presented for direct issue only the reader's are enabled while `CTL` is stopped (R240,
30_encoding.md R117). -/
theorem isReaderOp_of_enabled {i : Instr} {s : State} (hc : ctlStopped s.c = true)
    (h : uopEnabled i s = true) : isReaderOp i = true := by
  cases i with
  | rdrOpen | rdrRequestAndWait | rdrReadHeader | rdrReadRegion => rfl
  | _ => simp [uopEnabled, hc] at h

/-- No step changes what a stopped controller owns, direct issue included. -/
theorem step_ctlKept {s t : State} (hc : ctlStopped s.c = true) (h : step s = .next t) :
    CtlKept s t := by
  obtain ⟨_, ⟨_, i, _, _, henabled, hexec⟩ | ⟨_, _, _, _, _, rfl⟩ | ⟨_, hturn⟩⟩ := step_cases h
  · have hdirect : CtlKept s { s with uop := none } := { data := {} }
    exact hdirect.trans (exec_readerStep (isReaderOp_of_enabled hc henabled) hexec).ctlKept
  · exact { data := .refl t }
  · have hkept := CtlKept.turnTaken s
    refine hkept.trans ((runTurn_step hturn).ctlKept ?_)
    rw [hkept.ctl]
    exact hc

/-- Settles O12: a halted or exited controller is stopped, whatever steps. -/
theorem stoppedControllerFreezes : Obligations.StoppedControllerFreezes := by
  intro s t hstop h
  have hc : ctlStopped s.c = true := by simpa [ctlStopped] using hstop
  obtain ⟨⟨hpar, hcfg, hrb, htrg, hbw, hseg⟩, hctl, herr, hreq, hresp⟩ := step_ctlKept hc h
  exact ⟨hpar, hcfg, hrb, htrg, hctl, herr, hbw, hseg, hreq, hresp⟩

end Sys2Proof.Machine
end

section
/-!
PROOFS. `Deliver` run to its end (O44): the windows are stored byte by byte, turn by turn of `CTL`, then the
acquisition is counted and the swap check runs.
-/

namespace Sys2Proof.Machine

/-! ### What the copies of `Deliver` leave (44_controller_sequencer.md R250) -/

/-- The bytes of channel `c`'s window, unwritten cells of the ring filled by free values. -/
def windowBytes (endOffset : Nat) (c : Fin 4) (s : State) : List Byte :=
  fillFree s.free (windowCells s.rb[c] s.cfg.W.toNat endOffset)

@[simp] theorem windowBytes_length (endOffset : Nat) (c : Fin 4) (s : State) :
    (windowBytes endOffset c s).length = s.cfg.W.toNat := by simp [windowBytes]

/-- A written cell of the ring is the byte of its place in the window. -/
theorem windowBytes_of_written {endOffset k : Nat} {c : Fin 4} {s : State} {v : Byte}
    (h : (windowCells s.rb[c] s.cfg.W.toNat endOffset)[k]? = some (some v)) :
    (windowBytes endOffset c s)[k]? = some v := by
  rw [windowBytes, fillFree_getElem?, h]
  rfl

/-- The window of channel `c` stored in the region at `base`. -/
def windowStored (base endOffset : Nat) (s : State) (c : Fin 4) : State :=
  { s with
    seg := s.seg.writeBytes (windowAddr s base c 0) (windowBytes endOffset c s)
    free := s.free + s.cfg.W.toNat }

/-- The windows of a list of channels stored, in order. -/
def windowsStored (base endOffset : Nat) (cs : List (Fin 4)) (s : State) : State :=
  cs.foldl (windowStored base endOffset) s

/-- The copies write the segment, draw free values, and leave everything else. -/
theorem windowsStored_frame (base endOffset : Nat) (cs : List (Fin 4)) (s : State) :
    ∃ seg free, windowsStored base endOffset cs s = { s with seg := seg, free := free } := by
  induction cs generalizing s with
  | nil => exact ⟨s.seg, s.free, rfl⟩
  | cons c cs ih =>
    obtain ⟨seg, free, h⟩ := ih (windowStored base endOffset s c)
    exact ⟨seg, free, h⟩

/-- Windows of distinct channels lie apart (20_memory.md R73). -/
theorem windowAddr_inj {s : State} {base k k' : Nat} {c d : Fin 4} (hk : k < s.cfg.W.toNat)
    (hk' : k' < s.cfg.W.toNat) (h : windowAddr s base c k = windowAddr s base d k') : c = d := by
  have hpos : 0 < s.cfg.W.toNat := by omega
  have hsum : s.cfg.W.toNat * c.val + k = s.cfg.W.toNat * d.val + k' := by
    simp only [windowAddr, Nat.mul_comm _ s.cfg.W.toNat] at h
    omega
  have hdiv := congrArg (· / s.cfg.W.toNat) hsum
  simp only [Nat.mul_add_div hpos, Nat.div_eq_of_lt hk, Nat.div_eq_of_lt hk', Nat.add_zero] at hdiv
  exact Fin.ext hdiv

theorem windowStored_read (base endOffset : Nat) (c : Fin 4) {s : State} {k : Nat}
    (hk : k < s.cfg.W.toNat) :
    (windowStored base endOffset s c).seg.read? (windowAddr s base c k) =
      (windowBytes endOffset c s)[k]? := by
  simp only [windowStored, Memory.read_writeBytes, windowBytes_length, windowAddr]
  rw [if_pos (by omega)]
  congr 1
  omega

theorem windowStored_read_other (base endOffset : Nat) (c : Fin 4) {s : State} {a : Nat}
    (h : ∀ k < s.cfg.W.toNat, a ≠ windowAddr s base c k) :
    (windowStored base endOffset s c).seg.read? a = s.seg.read? a := by
  simp only [windowStored, Memory.read_writeBytes, windowBytes_length]
  refine if_neg fun hin => h (a - windowAddr s base c 0) (by omega) ?_
  simp only [windowAddr] at hin ⊢
  omega

/-- Bytes outside the windows stay. -/
theorem windowsStored_read_other {base endOffset : Nat} {cs : List (Fin 4)} {s : State} {a : Nat}
    (h : ∀ c ∈ cs, ∀ k < s.cfg.W.toNat, a ≠ windowAddr s base c k) :
    (windowsStored base endOffset cs s).seg.read? a = s.seg.read? a := by
  induction cs generalizing s with
  | nil => rfl
  | cons c cs ih =>
    obtain ⟨hc, hcs⟩ := List.forall_mem_cons.1 h
    exact (ih (s := windowStored base endOffset s c) hcs).trans
      (windowStored_read_other base endOffset c hc)

/-- Every byte of every window is stored, a written cell of the ring as it was. -/
theorem windowsStored_read {base endOffset : Nat} {cs : List (Fin 4)} {s : State} {c : Fin 4}
    (hc : c ∈ cs) {k : Nat} (hk : k < s.cfg.W.toNat) :
    ∃ b, (windowsStored base endOffset cs s).seg.read? (windowAddr s base c k) = some b ∧
      ∀ v, (windowCells s.rb[c] s.cfg.W.toNat endOffset)[k]? = some (some v) → b = v := by
  induction cs generalizing s with
  | nil => cases hc
  | cons d cs ih =>
    by_cases hmem : c ∈ cs
    · exact ih (s := windowStored base endOffset s d) hmem hk
    · obtain rfl := (List.mem_cons.1 hc).resolve_right hmem
      have hlater : (windowsStored base endOffset (c :: cs) s).seg.read? (windowAddr s base c k) =
          (windowStored base endOffset s c).seg.read? (windowAddr s base c k) :=
        windowsStored_read_other (s := windowStored base endOffset s c) fun d hd k' hk' heq => by
          have hsame : c = d := windowAddr_inj (s := s) hk hk' heq
          exact hmem (hsame ▸ hd)
      have hlt : k < (windowBytes endOffset c s).length := by rwa [windowBytes_length]
      rw [hlater, windowStored_read base endOffset c hk]
      refine ⟨_, List.getElem?_eq_getElem hlt, fun v hv => ?_⟩
      have hbyte := windowBytes_of_written hv
      rw [List.getElem?_eq_getElem hlt] at hbyte
      exact Option.some.inj hbyte

/-! ### The turns of the copies (R250; 20_memory.md R90) -/

/-- What the copies of a `Deliver` need: `CTL` free to work, the acquiring region at `base`, and windows that
lie in the rings and in the region. -/
structure CopyReady (base endOffset : Nat) (s : State) : Prop where
  free : CtlFree s
  cfg : CfgInv s
  rings : RingsInv s
  region : regionBase s.par s.bw.shadow.activeRegion = some base
  inLane : endOffset ≤ laneLen s.par

theorem CopyReady.stored {base endOffset : Nat} {s : State} (h : CopyReady base endOffset s)
    (seg : Memory) (free : Nat) : CopyReady base endOffset { s with seg := seg, free := free } :=
  ⟨⟨h.free.valid, h.free.uop, h.free.running, h.free.held⟩, h.cfg, h.rings, h.region, h.inLane⟩

/-- The bytes of a window are stored one a turn, and one turn more finds none left. -/
theorem run_storeBytes {base endOffset : Nat} {s : State} (h : CopyReady base endOffset s)
    (c : Fin 4) {k : Nat} {bytes : List Byte} (hk : k + bytes.length ≤ s.cfg.W.toNat)
    (more : List Turn) (work : List Micro) (j : Nat) :
    Host.Core.run Sys2Proof.core (j + (bytes.length + 1))
        (atWork (List.replicate (bytes.length + 1) .ctl ++ more) (.storeBytes c k bytes :: work) s) =
      Host.Core.run Sys2Proof.core j
        (atWork more work
          { s with seg := s.seg.writeBytes (windowAddr s base c k) bytes }) := by
  induction bytes generalizing s k with
  | nil => exact run_work h.free rfl j
  | cons b bs ih =>
    rw [List.length_cons] at hk
    have hstore (rest : List Turn) (todo : List Micro) :
        runMicro (.storeBytes c k (b :: bs)) (atWork rest todo s) =
          .next (atWork rest (.storeBytes c (k + 1) bs :: todo)
            { s with seg := s.seg.write (windowAddr s base c k) b }) :=
      congrArg (Res.outcome fun _ t => withTodo (.storeBytes c (k + 1) bs :: t.c.todo) t)
        (storeWindowByte_of_base (s := atWork rest todo s) h.cfg h.region c (by
          change k < s.cfg.W.toNat
          omega) b)
    exact (run_work h.free (hstore _ _) (j + (bs.length + 1))).trans
      (ih (h.stored _ s.free) (by change k + 1 + bs.length ≤ s.cfg.W.toNat; omega))

/-- The window of one channel takes `CFG.W + 2` turns. -/
theorem run_window {base endOffset : Nat} {s : State} (h : CopyReady base endOffset s) {c : Fin 4}
    (hc : c.val < s.par.nch) (more : List Turn) (work : List Micro) (j : Nat) :
    Host.Core.run Sys2Proof.core (j + (s.cfg.W.toNat + 2))
        (atWork (List.replicate (s.cfg.W.toNat + 2) .ctl ++ more)
          (.readWindow endOffset c :: work) s) =
      Host.Core.run Sys2Proof.core j (atWork more work (windowStored base endOffset s c)) := by
  have hread (rest : List Turn) (todo : List Micro) :
      runMicro (.readWindow endOffset c) (atWork rest todo s) =
        .next (atWork rest (.storeBytes c 0 (windowBytes endOffset c s) :: todo)
          { s with free := s.free + s.cfg.W.toNat }) :=
    congrArg (Res.outcome fun d t => withTodo (.storeBytes c 0 d :: t.c.todo) t)
      (readRing_of_ringsInv (s := atWork rest todo s) h.rings hc h.inLane)
  have hbytes := run_storeBytes (h.stored s.seg (s.free + s.cfg.W.toNat)) c (k := 0)
    (bytes := windowBytes endOffset c s) (by simp) more work j
  rw [windowBytes_length] at hbytes
  exact (run_work h.free (hread _ _) (j + (s.cfg.W.toNat + 1))).trans hbytes

/-- The windows of a list of channels take so many turns each. -/
theorem run_windows {base endOffset : Nat} {s : State} (h : CopyReady base endOffset s)
    {cs : List (Fin 4)} (hcs : ∀ c ∈ cs, c.val < s.par.nch) (more : List Turn) (work : List Micro)
    (j : Nat) :
    Host.Core.run Sys2Proof.core (j + cs.length * (s.cfg.W.toNat + 2))
        (atWork (List.replicate (cs.length * (s.cfg.W.toNat + 2)) .ctl ++ more)
          (cs.map (.readWindow endOffset) ++ work) s) =
      Host.Core.run Sys2Proof.core j (atWork more work (windowsStored base endOffset cs s)) := by
  induction cs generalizing s with
  | nil => simp [windowsStored]
  | cons c cs ih =>
    obtain ⟨hc, hcs⟩ := List.forall_mem_cons.1 hcs
    have hturns : (c :: cs).length * (s.cfg.W.toNat + 2) =
        (s.cfg.W.toNat + 2) + cs.length * (s.cfg.W.toNat + 2) := by
      rw [List.length_cons, Nat.succ_mul, Nat.add_comm]
    rw [hturns, List.replicate_add, List.append_assoc, ← Nat.add_assoc, Nat.add_right_comm]
    exact (run_window h hc _ _ _).trans (ih (s := windowStored base endOffset s c) (h.stored _ _) hcs)

/-! ### The whole `Deliver` (R250; 45_bridge.md R285, R287) -/

theorem channels_length {p : Params} (hv : p.valid = true) : (channels p).length = p.nch := by
  rcases (paramsInDomain_of_valid hv).nch with h | h | h <;> rw [channels, h] <;> rfl

/-- The state `Deliver` leaves, but for the turns and the work. -/
def deliveredState (base endOffset : Nat) (trig : Bool) (s : State) : State :=
  markDelivered
    (switchIfNeeded
      (dataWritten trig (windowsStored base endOffset (channels s.par) s))).2

/-- The turns of a `Deliver`: its start, the copies, the account, the swap check and the end. -/
theorem replicate_deliver (n : Nat) (more : List Turn) :
    List.replicate (6 + n) Turn.ctl ++ more =
      .ctl :: (List.replicate n .ctl ++ .ctl :: ([.ctl, .ctl, .ctl] ++ .ctl :: more)) := by
  have hturns : 6 + n = n + 5 + 1 := by omega
  rw [hturns, List.replicate_succ, List.replicate_add, List.cons_append, List.append_assoc]
  rfl

/-- A `Deliver` run to its end. -/
theorem run_deliver {base endOffset : Nat} {s : State} (h : CopyReady base endOffset s)
    (trig : Bool) {swap : Bool}
    (hswap : swap =
      (switchIfNeeded (dataWritten trig (windowsStored base endOffset (channels s.par) s))).1)
    (more : List Turn) (work : List Micro) :
    Host.Core.run Sys2Proof.core
        (5 + s.par.nch * (s.cfg.W.toNat + 2) + if swap then 1 else 0)
        (atWork (List.replicate (6 + s.par.nch * (s.cfg.W.toNat + 2)) .ctl ++ more)
          (deliverProg endOffset trig ++ work) s) =
      .next
        (atWork (if swap then more else .ctl :: more) work
          (deliveredState base endOffset trig s)) := by
  have hview (rest : List Turn) (todo : List Micro) :
      runMicro (.copyWindow endOffset trig) (atWork rest todo s) =
        .next (atWork rest
          ((channels s.par).map (.readWindow endOffset) ++ .dataWritten trig :: todo) s) :=
    congrArg (Res.outcome fun _ t =>
        withTodo ((channels t.par).map (Micro.readWindow endOffset) ++ .dataWritten trig :: t.c.todo) t)
      (acqRegion_of_base (s := atWork rest todo s) h.region)
  have hcopies := run_windows h fun c hc => (mem_channels s.par c).1 hc
  rw [channels_length h.free.valid] at hcopies
  have hcopied : CtlFree (windowsStored base endOffset (channels s.par) s) := by
    obtain ⟨seg, free, hr⟩ := windowsStored_frame base endOffset (channels s.par) s
    rw [hr]
    exact (h.stored seg free).free
  unfold deliveredState
  generalize windowsStored base endOffset (channels s.par) s = copied at hswap hcopies hcopied ⊢
  have hwritten : CtlFree (dataWritten trig copied) :=
    .congr (s := copied) rfl rfl rfl hcopied
  obtain ⟨hpar, huop, hc⟩ := switchIfNeeded_frame (dataWritten trig copied)
  have hswapped : CtlFree (switchIfNeeded (dataWritten trig copied)).2 :=
    hwritten.congr hpar huop hc
  have hcheck := run_swapProg hwritten hswap (.ctl :: more) (.markDelivered :: work) 1
  rw [turns_after_swap] at hcheck
  have hsteps : 5 + s.par.nch * (s.cfg.W.toNat + 2) + (if swap then 1 else 0) =
      ((1 + if swap then 3 else 2) + 1) + s.par.nch * (s.cfg.W.toNat + 2) + 1 := by
    cases swap
    · simp only [Bool.false_eq_true, if_false]
      omega
    · simp only [if_true]
  rw [hsteps, replicate_deliver]
  exact (run_work h.free (hview _ _) _).trans
    ((hcopies _ _ _).trans ((run_work hcopied rfl _).trans
      (hcheck.trans (run_work hswapped rfl 0))))

/-! ### The state `Deliver` leaves (R250; 45_bridge.md R285, R287) -/

/-- The shadow header after a `Deliver`: the acquisition counted, and the regions exchanged by a swap. -/
def deliveredHeader (trig swap : Bool) (s : State) : Header :=
  { s.bw.shadow with
    totalAcquisitions := s.bw.shadow.totalAcquisitions + 1
    droppedAcquisitions := s.bw.shadow.droppedAcquisitions + (if s.bw.filled then 1 else 0)
    triggered := if trig then 1 else 0
    activeRegion :=
      if swap then otherRegion s.bw.shadow.activeRegion else s.bw.shadow.activeRegion }

/-- The segment after a `Deliver`: the windows stored, and by a swap the shadow header published. -/
def deliveredSeg (base endOffset : Nat) (trig swap : Bool) (s : State) : Memory :=
  if swap then
    (windowsStored base endOffset (channels s.par) s).seg.writeBytes 0
      (headerBytes (deliveredHeader trig swap s))
  else (windowsStored base endOffset (channels s.par) s).seg

/-- A published header leaves the regions (20_memory.md R72). -/
theorem read_writeHeader_region (m : Memory) (h : Header) {a : Nat} (ha : hdrBytes ≤ a) :
    (m.writeBytes 0 (headerBytes h)).read? a = m.read? a := by
  have hout : ¬(0 ≤ a ∧ a < 0 + (headerBytes h).length) := by
    rw [headerBytes_length, Nat.zero_add]
    exact fun hin => Nat.not_lt.2 ha hin.2
  rw [Memory.read_writeBytes, if_neg hout]

theorem deliveredSeg_read_region (base endOffset : Nat) (trig swap : Bool) (s : State) {a : Nat}
    (ha : hdrBytes ≤ a) :
    (deliveredSeg base endOffset trig swap s).read? a =
      (windowsStored base endOffset (channels s.par) s).seg.read? a := by
  unfold deliveredSeg
  split
  · exact read_writeHeader_region _ _ ha
  · rfl

/-- The header stays, or becomes the shadow header whole (45_bridge.md R288). -/
theorem deliveredSeg_read_header {base endOffset : Nat} {s : State} (hcfg : CfgInv s)
    (hregion : regionBase s.par s.bw.shadow.activeRegion = some base) (trig swap : Bool) {a : Nat}
    (ha : a < hdrBytes) :
    (deliveredSeg base endOffset trig swap s).read? a =
      if swap then (headerBytes (deliveredHeader trig swap s))[a]? else s.seg.read? a := by
  unfold deliveredSeg
  split
  · exact read_writeHeader _ _ ha
  · refine windowsStored_read_other fun c _ k hk heq => ?_
    have hlow := (windowAddr_bounds hcfg hregion c hk).1
    omega

theorem dataWritten_shadow (trig : Bool) (s : State) :
    (dataWritten trig s).bw.shadow = deliveredHeader trig false s := by
  unfold dataWritten deliveredHeader
  cases s.bw.filled <;> simp

/-- The poll takes a request that has come in, if none is pending (45_bridge.md R287). -/
theorem swapPoll_eq (s : State) :
    swapPoll s =
      { s with
        semReq := if s.bw.reqPending then s.semReq else s.semReq - 1
        bw := { s.bw with reqPending := s.bw.reqPending || decide (0 < s.semReq) } } := by
  rcases swapPoll_cases s with ⟨hreq, hr⟩ | ⟨hreq, hzero, hr⟩ | ⟨hreq, hpos, hr⟩ <;> rw [hr]
  · simp only [hreq, if_true, Bool.true_or]
    rw [← hreq]
  · have hsub : s.semReq - 1 = s.semReq := by omega
    have hnone : ¬0 < s.semReq := by omega
    simp only [hreq, hsub, hnone, Bool.false_eq_true, if_false, decide_false, Bool.or_false]
    rw [← hreq]
  · simp only [hreq, hpos, Bool.false_eq_true, if_false, decide_true, Bool.or_true]

/-- A swap exchanges the regions of the header that the account left. -/
theorem deliveredHeader_swapped (trig : Bool) (s : State) :
    { deliveredHeader trig false s with
      activeRegion := otherRegion (deliveredHeader trig false s).activeRegion } =
      deliveredHeader trig true s := by
  simp [deliveredHeader]

/-- The account and the swap check of a `Deliver`: with a window written the swap happens where a request is
pending or comes in (R285, R287). -/
theorem switchIfNeeded_dataWritten (trig : Bool) {s : State} {swap : Bool}
    (hswap : swap = (s.bw.reqPending || decide (0 < s.semReq))) :
    switchIfNeeded (dataWritten trig s) =
      (swap,
        { s with
          semReq := if s.bw.reqPending then s.semReq else s.semReq - 1
          semResp := s.semResp + if swap then 1 else 0
          bw :=
            { shadow := deliveredHeader trig swap s
              filled := !swap
              reqPending := false
              swaps := s.bw.swaps + if swap then 1 else 0 }
          seg :=
            if swap then s.seg.writeBytes 0 (headerBytes (deliveredHeader trig swap s))
            else s.seg }) := by
  have hpoll : swapPoll (dataWritten trig s) =
      { s with
        semReq := if s.bw.reqPending then s.semReq else s.semReq - 1
        bw :=
          { shadow := deliveredHeader trig false s
            filled := true
            reqPending := s.bw.reqPending || decide (0 < s.semReq)
            swaps := s.bw.swaps } } := by
    rw [← dataWritten_shadow]
    exact swapPoll_eq _
  have hdue : swapDue (swapPoll (dataWritten trig s)).bw = swap := by
    rw [hpoll, hswap, swapDue, Bool.and_true]
  cases swap with
  | true =>
    rw [switchIfNeeded, if_pos hdue, hpoll, ← deliveredHeader_swapped]
    simp only [swapRelease, swapPublish, publish, semRelease, if_true, Bool.not_true]
  | false =>
    rw [switchIfNeeded, if_neg (Bool.eq_false_iff.1 hdue), hpoll, ← hswap]
    rfl

/-- The copies leave the swap check as it was. -/
theorem swap_of_copied (base endOffset : Nat) (trig : Bool) {s : State} {swap : Bool}
    (hswap : swap = (s.bw.reqPending || decide (0 < s.semReq))) :
    swap =
      (switchIfNeeded (dataWritten trig (windowsStored base endOffset (channels s.par) s))).1 := by
  obtain ⟨seg, free, hr⟩ := windowsStored_frame base endOffset (channels s.par) s
  rw [hr, switchIfNeeded_dataWritten (s := { s with seg := seg, free := free }) trig hswap]

theorem deliveredState_eq (base endOffset : Nat) (trig : Bool) {s : State} {swap : Bool}
    (hswap : swap = (s.bw.reqPending || decide (0 < s.semReq))) :
    ∃ free, deliveredState base endOffset trig s =
      { s with
        c := { s.c with autoCount := 0, delivered := true }
        bw :=
          { shadow := deliveredHeader trig swap s
            filled := !swap
            reqPending := false
            swaps := s.bw.swaps + if swap then 1 else 0 }
        seg := deliveredSeg base endOffset trig swap s
        semReq := if s.bw.reqPending then s.semReq else s.semReq - 1
        semResp := s.semResp + if swap then 1 else 0
        free := free } := by
  obtain ⟨seg, free, hr⟩ := windowsStored_frame base endOffset (channels s.par) s
  refine ⟨free, ?_⟩
  rw [deliveredState, deliveredSeg, hr,
    switchIfNeeded_dataWritten (s := { s with seg := seg, free := free }) trig hswap]
  rfl

/-- Settles O44: the run leaves `deliveredState`, whose swap check found a written window. -/
theorem deliverPutsEveryWindow : Obligations.DeliverPutsEveryWindow := by
  intro s endOffset base trig swap work more hs hphase htodo hagenda hswap hbase
  obtain ⟨hv, hu, hhalted, -, hcfg, hrings, -, -, -, -, -, -, -, hok, -, hheld⟩ := hs
  have hrunning : ctlStopped s.c = false := by simp [ctlStopped, hhalted, hphase]
  have hnone : s.c.rspHold = none := by
    by_contra hsome
    have hnil := (hheld hsome).2
    rw [htodo] at hnil
    cases hnil
  have hregion : regionBase s.par s.bw.shadow.activeRegion = some base := by
    rcases hbase with ⟨hsel, rfl⟩ | ⟨hsel, rfl⟩ <;>
      simp [regionBase, hsel, hdrBytes, regionBytes, maxCh, width]
  have hend : MicroOk s (.copyWindow endOffset trig) := hok _ (by
    rw [htodo]
    exact List.mem_cons_self)
  have hready : CopyReady base endOffset s :=
    ⟨⟨hv, hu, hrunning, hnone⟩, hcfg, hrings, hregion, Nat.le_of_lt hend⟩
  obtain ⟨free, hleft⟩ := deliveredState_eq base endOffset trig hswap
  have hrun := run_deliver hready trig (swap_of_copied base endOffset trig hswap) more work
  rw [← eq_atWork hagenda htodo, hleft] at hrun
  have hregionRead {a : Nat} (ha : hdrBytes ≤ a) := deliveredSeg_read_region base endOffset trig swap s ha
  refine ⟨deliveredSeg base endOffset trig swap s, free, deliveredHeader trig swap s, hrun, rfl,
    fun c hc k hk => ?_, fun a ha hout => ?_, fun a ha => ?_⟩
  · have hlow := (windowAddr_bounds hcfg hregion c hk).1
    rw [hregionRead hlow]
    exact windowsStored_read ((mem_channels _ _).2 hc) hk
  · rw [hregionRead ha]
    exact windowsStored_read_other fun c hc => hout c ((mem_channels _ _).1 hc)
  · exact deliveredSeg_read_header hcfg hregion trig swap ha

end Sys2Proof.Machine
end

section
/-!
PROOFS. What the bridge keeps in every step of the assembled core: the handshake (O53), the roles of the
regions (O55), and the consumer's read window (O56).
-/

namespace Sys2Proof.Machine

/-! ### The handshake (45_bridge.md R310) -/

/-- Settles O53: O47 keeps the handshake, and one request is the most a reader has under way. -/
theorem handshakeIsKept : Obligations.HandshakeIsKept := by
  refine ⟨fun s t hs hu h => step_handshakeInv hu h hs, fun s hs hnone => ?_⟩
  obtain ⟨hlatched, -⟩ := hs
  rw [hnone, Nat.add_zero] at hlatched
  have hone : s.br.latched.toNat ≤ 1 := Bool.toNat_le _
  omega

/-- A reader in its window has nothing under way, so no swap is due (R308, R310). -/
theorem HandshakeInv.no_swapDue {s : State} (hs : HandshakeInv s) (hw : s.br.inWindow = true) :
    swapDue s.bw = false := by
  obtain ⟨hlatched, hwindow, -⟩ := hs
  rw [(hwindow hw).1, Bool.toNat_false] at hlatched
  cases hreq : s.bw.reqPending
  · rw [swapDue, hreq, Bool.false_and]
  · rw [hreq, Bool.toNat_true] at hlatched
    omega

/-! ### The roles of the regions (R287, R291) -/

/-- Of all updates only a swap moves the selector of the shadow header. -/
theorem CoreUpdate.activeRegion {s t : State} (h : CoreUpdate s t) :
    t.bw.shadow.activeRegion = s.bw.shadow.activeRegion ∨
      (swapDue s.bw = true ∧ t = swapPublish s) := by
  cases h with
  | swap due => exact .inr ⟨due, rfl⟩
  | feed _ h =>
    obtain ⟨_, rfl, -⟩ := feedRings_frame h
    exact .inl rfl
  | poll =>
    rcases swapPoll_cases s with ⟨_, hr⟩ | ⟨_, _, hr⟩ | ⟨_, _, hr⟩ <;> rw [hr] <;> exact .inl rfl
  | depth | delay | level => exact .inl (by simp [depthSet, widthSet, positionSet, levelSet])
  | _ => exact .inl rfl

/-- Settles O55, by cases on the update. -/
theorem rolesChangeOnlyWhenFilled : Obligations.RolesChangeOnlyWhenFilled := by
  intro s t hu h hmoved
  obtain ⟨u, v, hsu, huv, hvt⟩ := step_coreUpdate hu h
  rw [hvt.bw, ← hsu.bw] at hmoved
  rcases huv.activeRegion with hkept | ⟨due, rfl⟩
  · exact absurd hkept hmoved
  · obtain ⟨hreq, hfilled⟩ := Bool.and_eq_true_iff.1 due
    rw [hvt.bw, hvt.seg, ← hsu.bw]
    exact ⟨hfilled, hreq, rfl, rfl, rfl, fun _ => publish_read _⟩

/-! ### What a step stores in the segment (20_memory.md R90) -/

/-- What a step of the assembled core from `s` can make of the segment: it stays, a swap publishes the shadow
header, or the next store of a `Deliver` goes to its place in the acquiring region. -/
inductive SegStep (s : State) : Memory → Prop
  | kept : SegStep s s.seg
  | published (due : swapDue s.bw = true) (shadow : Header)
      (hshadow : shadow = { s.bw.shadow with activeRegion := otherRegion s.bw.shadow.activeRegion }) :
      SegStep s (s.seg.writeBytes 0 (headerBytes shadow))
  | stored (c : Fin 4) (k : Nat) (b : Byte) (bytes : List Byte) (base : Nat)
      (htodo : .storeBytes c k (b :: bytes) ∈ s.c.todo)
      (hbase : regionBase s.par s.bw.shadow.activeRegion = some base) :
      SegStep s (s.seg.write (windowAddr s base c k) b)

/-- A step that leaves the segment. -/
theorem SegStep.of_same {s t : State} (h : SameData s t) : SegStep s t.seg := by
  rw [h.seg]
  exact .kept

/-- The turn taken off matters to none of it. -/
theorem SegStep.of_turnTaken {s : State} {seg : Memory} (h : SegStep (turnTaken s) seg) :
    SegStep s seg := by
  obtain ⟨_, _, hr⟩ := turnTaken_frame s
  rw [hr] at h
  cases h with
  | kept => exact .kept
  | published due shadow hshadow => exact .published (s := s) due shadow hshadow
  | stored c k b bytes base htodo hbase => exact .stored c k b bytes base htodo hbase

theorem runMicro_segStep {m : Micro} {rest : List Micro} {s t : State} (ht : s.c.todo = m :: rest)
    (h : runMicro m (withTodo rest s) = .next t) : SegStep s t.seg := by
  cases runMicro_step h with
  | stored c k b bytes =>
    simp only [runMicro] at h
    rcases storeWindowByte_cases c k b (withTodo rest s) with
      ⟨base, hbase, _, _, hr⟩ | ⟨_, hr⟩ | ⟨_, _, _, hr⟩ <;> rw [hr] at h
    · rw [← Host.Outcome.next.inj h]
      exact .stored c k b bytes base (ht ▸ List.mem_cons_self) hbase
    · rw [← Host.Outcome.next.inj h]
      exact .kept
    · cases h
  | swapped due =>
    rw [withTodo_seg, swapPublish_seg]
    exact .published (s := s) due _ rfl
  | polled =>
    rw [swapPoll_seg]
    exact .kept
  | scan u hu => subst hu; exact .kept
  | _ => exact .kept

theorem PhaseStep.seg {p : Phase} {s t : State} (h : PhaseStep s p t) : t.seg = s.seg := by
  cases h with
  | command w q i _ _ hd he =>
    obtain ⟨hframe, -⟩ := commandsTouchOnlyConfiguration i _ t (isCommand_of_decodeCmd hd) he
    rw [hframe]
  | fed u v hu hf =>
    obtain ⟨_, rfl, -⟩ := feedRings_frame hf
    subst hu
    exact demux_seg _ _
  | _ => rfl

theorem ctlStep_segStep {s t : State} (h : ctlStep s = .next t) : SegStep s t.seg := by
  rcases ctlStep_cases s with
    ⟨_, hr⟩ | ⟨_, r, _, hr⟩ | ⟨_, _, m, rest, ht, hr⟩ | ⟨_, _, _, hr⟩ <;> rw [hr] at h
  · cases h
    exact .kept
  · cases h
    unfold rspWait
    split <;> exact .kept
  · exact runMicro_segStep ht h
  · rw [(runPhase_step h).seg]
    exact .kept

/-- Only `CTL` stores in the segment (60_exceptions.md R346). -/
theorem TurnStep.segStep {turn : Turn} {s t : State} (h : TurnStep s turn t) : SegStep s t.seg := by
  cases h with
  | ctl _ h => exact ctlStep_segStep h
  | readerIssues op _ _ _ h => exact .of_same ((SameData.readerOperand op s).trans h.same)
  | readerWaits => exact .of_same (.waitStep s)
  | readerReads _ h => exact .of_same h.same
  | _ => exact .kept

theorem step_segStep {s t : State} (hu : s.uop = none) (h : step s = .next t) : SegStep s t.seg :=
  (step_turnStep hu h).2.segStep.of_turnTaken

/-! ### The read window (45_bridge.md R308, R311) -/

/-- A byte of a channel's window stays inside its region (20_memory.md R73). -/
theorem windowAddr_in_region {s : State} (hcfg : CfgInv s) (base : Nat) (c : Fin 4) {k : Nat}
    (hk : k < s.cfg.W.toNat) :
    base ≤ windowAddr s base c k ∧ windowAddr s base c k < base + regionBytes s.par := by
  have hlast := (windowAddr_bounds hcfg (sel := 2) rfl c hk).2
  unfold windowAddr segBytes at *
  omega

/-- The two regions have no byte in common (R72). -/
theorem regionBase_disjoint {p : Params} {sel : Byte} {base other : Nat} (hsel : sel = 1 ∨ sel = 2)
    (hbase : regionBase p sel = some base) (hother : regionBase p (otherRegion sel) = some other) :
    base + regionBytes p ≤ other ∨ other + regionBytes p ≤ base := by
  rcases hsel with rfl | rfl <;> cases hbase <;> cases hother
  · exact .inl (le_refl _)
  · exact .inr (le_refl _)

/-- Settles O56: in the window no swap is due, and a store goes to the region not being read. -/
theorem readWindowIsStable : Obligations.ReadWindowIsStable := by
  intro s t base hs hwindow h _ hbase
  obtain ⟨-, hu, -, -, hcfg, -, -, -, hshadow, hpublished, -, hhandshake, -, hsequencer⟩ := hs
  obtain ⟨-, -, hregion, -⟩ := hshadow
  obtain ⟨-, -, -, -, hactive, -⟩ := hpublished
  obtain ⟨hok, -⟩ := hsequencer
  rw [hactive] at hbase
  generalize hseg : t.seg = seg
  have hstep := step_segStep hu h
  rw [hseg] at hstep
  cases hstep with
  | kept => exact ⟨fun _ _ => rfl, fun _ _ _ => rfl⟩
  | published due => cases due.symm.trans (hhandshake.no_swapDue hwindow)
  | stored c k b bytes acquired htodo hacquired =>
    obtain ⟨-, hfit⟩ : c.val < s.par.nch ∧ k + (b :: bytes).length ≤ s.cfg.W.toNat := hok _ htodo
    rw [List.length_cons] at hfit
    obtain ⟨hlow, hhigh⟩ := windowAddr_in_region hcfg acquired c (k := k) (by omega)
    have hheader := (regionBase_bounds hacquired).1
    have hapart := regionBase_disjoint hregion hacquired hbase
    refine ⟨fun a ha => Memory.read_write_ne _ _ ?_, fun a ha ha' => Memory.read_write_ne _ _ ?_⟩
    · unfold hdrBytes at hheader
      omega
    · omega

end Sys2Proof.Machine
end

section
/-!
PROOFS. The operations of the bridge writer (45_bridge.md section 1): `BRG.INIT` (O33), `BRG.ACQ_REGION` and
`BRG.DATA_WRITTEN` (O34), `BRG.SWITCH_IF_NEEDED` (O35).
-/

namespace Sys2Proof.Machine

/-! ### Publication (45_bridge.md R281, R288) -/

/-- A header stored whole: below the regions its bytes, the regions as they were. -/
theorem read_writeHeader_all (m : Memory) (h : Header) (a : Nat) :
    (m.writeBytes 0 (headerBytes h)).read? a =
      if a < hdrBytes then (headerBytes h)[a]? else m.read? a := by
  split
  · next ha => exact read_writeHeader m h ha
  · next ha => exact read_writeHeader_region m h (Nat.le_of_not_lt ha)

/-- A segment made anew holds a header and nothing else. -/
theorem read_writeHeader_nil (h : Header) (a : Nat) :
    (Memory.writeBytes [] 0 (headerBytes h)).read? a = (headerBytes h)[a]? := by
  rw [read_writeHeader_all]
  split
  · rfl
  · next ha =>
    have hbeyond : (headerBytes h).length ≤ a := by
      rw [headerBytes_length]
      exact Nat.le_of_not_lt ha
    rw [Memory.read_nil, List.getElem?_eq_none hbeyond]

theorem twice_regionBytes (p : Params) : 2 * regionBytes p = 2 * (4 * p.maxw) :=
  congrArg (2 * ·) (Nat.mul_one _)

/-- Settles O33: the header is `initHeader`, and the segment its image. -/
theorem brgInitCompletes : Obligations.BrgInitCompletes := by
  intro s
  refine ⟨initHeader s.par s.cfg, Memory.writeBytes [] 0 (headerBytes (initHeader s.par s.cfg)), rfl, rfl,
    ?capacity, rfl, rfl, rfl, rfl, rfl, rfl, rfl, rfl, rfl, rfl, rfl, read_writeHeader_nil _⟩
  case capacity =>
    rw [← twice_regionBytes]
    rfl

/-! ### The acquiring region (R283, R285) -/

theorem exec_brgAcqRegion_of_base {s : State} {base : Nat}
    (h : regionBase s.par s.bw.shadow.activeRegion = some base) :
    exec .brgAcqRegion s =
      .next
        { s with
          port := { s.port with viewBase := base, viewSize := s.par.nch * s.cfg.W.toNat } } := by
  have hsize : viewSize s = s.par.nch * s.cfg.W.toNat := Nat.mul_one _
  simp only [exec, execBrgAcqRegion, acqRegion_of_base h, Res.outcome, hsize]

theorem exec_brgAcqRegion_of_unrecognised {s : State} (h₁ : s.bw.shadow.activeRegion ≠ 1)
    (h₂ : s.bw.shadow.activeRegion ≠ 2) : exec .brgAcqRegion s = .next (raiseFatal 0x81 s) := by
  have hnone : regionBase s.par s.bw.shadow.activeRegion = none := by
    rw [regionBase, if_neg h₁, if_neg h₂]
  simp only [exec, execBrgAcqRegion, acqRegion, hnone, Res.outcome, fRegionEnum]

theorem exec_brgDataWritten (s : State) :
    exec .brgDataWritten s = .next (dataWritten s.port.trig s) := rfl

/-- Settles O34: the view by the selector of the shadow header, the account by what the region held. -/
theorem brgRegionAndDataWrittenComplete : Obligations.BrgRegionAndDataWrittenComplete := by
  refine ⟨fun s => ⟨fun hsel => ?first, fun hsel => ?second, exec_brgAcqRegion_of_unrecognised⟩,
    fun s => ?written⟩
  case first =>
    refine exec_brgAcqRegion_of_base ?_
    rw [hsel]
    rfl
  case second =>
    refine exec_brgAcqRegion_of_base ?_
    simp [hsel, regionBase, hdrBytes, regionBytes, maxCh, width]
  case written =>
    rw [exec_brgDataWritten]
    cases hfilled : s.bw.filled <;> simp [dataWritten, hfilled]

/-! ### The swap (R287, R288) -/

theorem exec_brgSwitchIfNeeded (s : State) :
    exec .brgSwitchIfNeeded s =
      .next { (switchIfNeeded s).2 with port := { s.port with swapped := (switchIfNeeded s).1 } } := rfl

/-- The state after a swap check that finds a request pending and the region filled. -/
theorem switchIfNeeded_of_due {s : State} (h : swapDue (swapPoll s).bw = true) :
    switchIfNeeded s = (true, swapRelease (swapPublish (swapPoll s))) := by
  rw [switchIfNeeded, if_pos h]

theorem switchIfNeeded_of_not_due {s : State} (h : swapDue (swapPoll s).bw = false) :
    switchIfNeeded s = (false, swapPoll s) := by
  rw [switchIfNeeded, h, if_neg Bool.false_ne_true]

/-- The header with the regions' roles exchanged (R287). -/
def swappedHeader (h : Header) : Header := { h with activeRegion := otherRegion h.activeRegion }

/-- A swap exchanges the roles, publishes the header whole and raises the response. -/
theorem swapRelease_swapPublish (s : State) :
    swapRelease (swapPublish s) =
      { s with
        semResp := s.semResp + 1
        bw :=
          { shadow := swappedHeader s.bw.shadow, filled := false, reqPending := false
            swaps := s.bw.swaps + 1 }
        seg := s.seg.writeBytes 0 (headerBytes (swappedHeader s.bw.shadow)) } := by
  simp only [swapRelease, swapPublish, publish, semRelease, swappedHeader]

/-- Settles O35: the poll settles whether a swap is due. -/
theorem brgSwitchCompletes : Obligations.BrgSwitchCompletes := by
  intro s pending semReq hpending hsemReq
  have hpoll : swapPoll s = { s with semReq := semReq, bw := { s.bw with reqPending := pending } } := by
    rw [hpending, hsemReq]
    exact swapPoll_eq s
  have hdue : swapDue (swapPoll s).bw = (pending && s.bw.filled) := by rw [hpoll, swapDue]
  rw [exec_brgSwitchIfNeeded]
  refine ⟨fun hreq hfilled => ?swap, fun hnot => ?noSwap⟩
  case swap =>
    rw [hreq, hfilled] at hdue
    refine ⟨swappedHeader s.bw.shadow, s.seg.writeBytes 0 (headerBytes (swappedHeader s.bw.shadow)), ?_,
      rfl, fun hsel => congrArg otherRegion hsel, fun hsel => congrArg otherRegion hsel,
      read_writeHeader_all _ _⟩
    rw [switchIfNeeded_of_due hdue, swapRelease_swapPublish, hpoll]
  case noSwap =>
    have hnone : (pending && s.bw.filled) = false := by
      rcases hnot with h | h <;> simp [h]
    rw [hnone] at hdue
    rw [switchIfNeeded_of_not_due hdue, hpoll]

end Sys2Proof.Machine
end

section
/-!
PROOFS. The operations of the bridge reader (45_bridge.md section 2): `RDR.OPEN` and `RDR.READ_HEADER` (O36),
`RDR.REQUEST_AND_WAIT` (O37), `RDR.READ_REGION` (O38).
-/

namespace Sys2Proof.Machine

/-! ### The header a consumer sees (45_bridge.md R298, R304) -/

theorem publishedHeader_length (s : State) : (publishedHeader s).length = 72 := by
  simp [publishedHeader, hdrBytes]

/-- A byte stored in the header is the byte of its place. -/
theorem publishedHeader_of_stored {s : State} {a : Nat} {b : Byte} (ha : a < hdrBytes)
    (h : s.seg.read? a = some b) : (publishedHeader s)[a]? = some b := by
  simp [publishedHeader, Memory.readBytes, ha, h]

/-- A field read into a register as wide as it is keeps its value. -/
theorem toNat_ofNat_headerField {w : Nat} (bs : List Byte) (offset n : Nat) (hw : w = 8 * n) :
    (BitVec.ofNat w (headerField bs offset n)).toNat = headerField bs offset n := by
  subst hw
  rw [BitVec.toNat_ofNat, Nat.mod_eq_of_lt]
  rw [Nat.pow_mul]
  exact headerField_lt bs offset n

/-- The writer has initialised exactly when the version a consumer reads is not 0 (R298). -/
theorem bridgeUp_iff (s : State) :
    bridgeUp s = true ↔ (headerOfBytes (publishedHeader s)).version ≠ 0 := by
  have hversion : (headerOfBytes (publishedHeader s)).version.toNat =
      headerField (publishedHeader s) 0 4 := toNat_ofNat_headerField _ 0 4 rfl
  rw [bridgeUp, bne_iff_ne, ← hversion]
  exact not_congr (BitVec.toNat_inj (y := 0))

/-- A reader that may open does so once the writer has initialised, and else polls (R298). -/
theorem exec_rdrOpen {s : State} (h : ¬(s.br.isOpen = true ∧ s.br.latched = true)) :
    exec .rdrOpen s =
      if bridgeUp s then .next { s with br := { s.br with isOpen := true, latched := false } }
      else .next s :=
  if_neg h

theorem readerReady_of_idle {s : State} (ho : s.br.isOpen = true) (hw : s.br.waiting = false) :
    readerReady s.br = true := (readerReady_iff _).2 ⟨ho, hw⟩

theorem exec_rdrReadHeader {s : State} (ho : s.br.isOpen = true) (hw : s.br.waiting = false) :
    exec .rdrReadHeader s = .next (readHeader s) :=
  if_pos (readerReady_of_idle ho hw)

/-- Settles O36. -/
theorem rdrOpenAndReadHeaderComplete : Obligations.RdrOpenAndReadHeaderComplete := by
  refine ⟨fun s hfirst => ⟨fun hup => ?up, fun hdown => ?poll⟩, fun s ho hw => ?header⟩
  case up => rw [exec_rdrOpen hfirst, if_pos ((bridgeUp_iff s).2 hup)]
  case poll => rw [exec_rdrOpen hfirst, if_neg fun hup => (bridgeUp_iff s).1 hup hdown]
  case header =>
    exact ⟨publishedHeader s, exec_rdrReadHeader ho hw, publishedHeader_length s,
      fun _ ha _ => publishedHeader_of_stored ha⟩

/-! ### The request and the wait (R300, R302) -/

theorem exec_rdrRequestAndWait_of_idle {s : State} (ho : s.br.isOpen = true)
    (hw : s.br.waiting = false) : exec .rdrRequestAndWait s = .next (requestStep s) := by
  simp [exec, execRdrRequestAndWait, ho, hw]

theorem exec_rdrRequestAndWait_of_waiting {s : State} (ho : s.br.isOpen = true)
    (hw : s.br.waiting = true) : exec .rdrRequestAndWait s = .next (waitStep s) := by
  simp [exec, execRdrRequestAndWait, ho, hw]

/-- Settles O37: the request step raises one where none is latched; the wait step looks at `SEM.resp`. -/
theorem rdrRequestAndWaitCompletes : Obligations.RdrRequestAndWaitCompletes := by
  intro s ho
  refine ⟨fun hw => ?request, fun hw hpos => ?satisfied, fun hw hzero => ?timedOut⟩
  case request =>
    rw [exec_rdrRequestAndWait_of_idle ho hw]
    cases hl : s.br.latched <;> simp [requestStep, semRelease, hl]
  case satisfied => rw [exec_rdrRequestAndWait_of_waiting ho hw, waitStep, if_pos hpos]
  case timedOut =>
    rw [exec_rdrRequestAndWait_of_waiting ho hw, waitStep, if_neg (Nat.not_lt.2 (Nat.le_zero.2 hzero))]

/-! ### The start of a region read (R306) -/

theorem exec_rdrReadRegion_of_idle {s : State} (ho : s.br.isOpen = true) (hw : s.br.waiting = false)
    (hr : s.br.reading = none) : exec .rdrReadRegion s = .next (startRegionRead s) := by
  simp [exec, execRdrReadRegion, readerReady_of_idle ho hw, hr]

theorem exec_rdrReadRegion_of_reading {s : State} {r : RegionCursor} (ho : s.br.isOpen = true)
    (hw : s.br.waiting = false) (hr : s.br.reading = some r) :
    exec .rdrReadRegion s = (readRegionByte r s).outcome fun _ t => t := by
  simp [exec, execRdrReadRegion, readerReady_of_idle ho hw, hr]

/-- A recognised selector starts the read of the region it does not name. -/
theorem startRegionRead_of_base {s : State} {base : Nat}
    (h : acquiredBase s.par (headerOfBytes (publishedHeader s)).activeRegion = some base) :
    startRegionRead s =
      { s with
        br :=
          { s.br with
            hdr := publishedHeader s
            reading := regionCursor base (regionReadSize (publishedHeader s)) }
        port := { s.port with bytes := [], rdrFault := none } } := by
  rcases startRegionRead_cases s with ⟨base', hbase, hr⟩ | ⟨hnone, _⟩
  · rw [hr, Option.some.inj (hbase.symm.trans h)]
  · cases hnone.symm.trans h

theorem startRegionRead_of_unrecognised {s : State}
    (h : acquiredBase s.par (headerOfBytes (publishedHeader s)).activeRegion = none) :
    startRegionRead s =
      { s with
        br := { s.br with hdr := publishedHeader s }
        port := { s.port with bytes := [], rdrFault := some fRegionEnum } } := by
  rcases startRegionRead_cases s with ⟨_, hbase, _⟩ | ⟨_, hr⟩
  · cases hbase.symm.trans h
  · exact hr

/-- The acquired region is the one the selector does not name (20_memory.md R72). -/
theorem acquiredBase_of_selector {p : Params} {sel : Byte} {base : Nat}
    (h : (sel = 1 ∧ base = 72 + 4 * p.maxw) ∨ (sel = 2 ∧ base = 72)) :
    acquiredBase p sel = some base := by
  rcases h with ⟨rfl, rfl⟩ | ⟨rfl, rfl⟩
  · simp [acquiredBase, otherRegion, regionBase, hdrBytes, regionBytes, maxCh, width]
  · rfl

theorem acquiredBase_of_unrecognised {p : Params} {sel : Byte} (h₁ : sel ≠ 1) (h₂ : sel ≠ 2) :
    acquiredBase p sel = none := if_neg (not_or.2 ⟨h₁, h₂⟩)

/-- The number of bytes read is the product of three fields of the header (R306). -/
theorem regionReadSize_eq (hdr : List Byte) :
    regionReadSize hdr =
      (headerOfBytes hdr).proc.channelCount.toNat * (headerOfBytes hdr).proc.channelLength.toNat *
        (headerOfBytes hdr).channelDataWidth.toNat := by
  simp only [regionReadSize, headerOfBytes, toNat_ofNat_headerField]

theorem regionCursor_eq (a n : Nat) :
    regionCursor a n = if n = 0 then none else some { addr := a, more := n - 1 } := by
  cases n <;> rfl

/-! ### The bytes of a region read (R306; 20_memory.md R89, R90) -/

/-- The byte that the read of a region gives at an address, after `draws` draws of it (20_memory.md R78, R89). -/
def byteRead (s : State) (draws a : Nat) : Byte :=
  if readRaces s then Config.freeByte (s.free + draws) else regionByteAt s a

/-- How many free values the read of `n` bytes draws. -/
def drawsOf (s : State) (n : Nat) : Nat := if readRaces s then n else 0

theorem byteRead_of_race {s : State} (h : readRaces s = true) (draws a : Nat) :
    byteRead s draws a = Config.freeByte (s.free + draws) := if_pos h

/-- Outside a race the byte is the one stored, else the unspecified one of its place (10_state.md R53). -/
theorem byteRead_of_no_race {s : State} (h : readRaces s = false) (draws a : Nat) :
    byteRead s draws a =
      match s.seg.read? a with
      | some stored => stored
      | none => Config.regionByte s.segGen a := by
  rw [byteRead, h, if_neg Bool.false_ne_true, regionByteAt]
  cases s.seg.read? a <;> rfl

/-- The state after the byte step of a region read. -/
def byteTaken (r : RegionCursor) (s : State) : State :=
  { s with
    free := s.free + drawsOf s 1
    br := { s.br with reading := regionCursor (r.addr + 1) r.more }
    port := { s.port with bytes := s.port.bytes ++ [byteRead s 0 r.addr] } }

theorem readRegionByte_of_lt {s : State} {r : RegionCursor} (h : r.addr < segBytes s.par) :
    readRegionByte r s = .ok () (byteTaken r s) := by
  rcases readRegionByte_cases r s with ⟨_, hrace, hr⟩ | ⟨_, hrace, hr⟩ | ⟨hge, _⟩
  · rw [hr]
    simp [byteTaken, drawsOf, byteRead, hrace]
  · rw [hr]
    simp [byteTaken, drawsOf, byteRead, hrace]
  · omega

theorem exec_rdrReadRegion_of_lt {s : State} {r : RegionCursor} (ho : s.br.isOpen = true)
    (hw : s.br.waiting = false) (hr : s.br.reading = some r) (hlt : r.addr < segBytes s.par) :
    exec .rdrReadRegion s = .next (byteTaken r s) := by
  rw [exec_rdrReadRegion_of_reading ho hw hr, readRegionByte_of_lt hlt]
  rfl

theorem readRegionByte_of_le {s : State} {r : RegionCursor} (h : segBytes s.par ≤ r.addr) :
    readRegionByte r s = .fault .segBounds := if_neg (Nat.not_lt.2 h)

/-- The state after the `n` bytes from `a` on are read, with the turns `more` left. -/
def regionRead (a n : Nat) (more : List Turn) (s : State) : State :=
  { s with
    agenda := more
    free := s.free + drawsOf s n
    br := { s.br with reading := none }
    port := { s.port with bytes := s.port.bytes ++ (List.range n).map fun k => byteRead s k (a + k) } }

/-- A read of no bytes is at its end. -/
theorem regionRead_zero {s : State} (hr : s.br.reading = none) (a : Nat) :
    regionRead a 0 s.agenda s = s := by
  have hdraws : drawsOf s 0 = 0 := by simp [drawsOf]
  simp only [regionRead, hdraws, Nat.add_zero, List.range_zero, List.map_nil, List.append_nil, ← hr]

/-- Free values are drawn in the order of the bytes, and a byte step stores nothing. -/
theorem byteRead_byteTaken (r : RegionCursor) (agenda : List Turn) (s : State) (draws a : Nat) :
    byteRead (byteTaken r { s with agenda := agenda }) draws a = byteRead s (draws + 1) a := by
  cases hrace : readRaces s
  · have hrace' : readRaces (byteTaken r { s with agenda := agenda }) = false := hrace
    rw [byteRead_of_no_race hrace, byteRead_of_no_race hrace']
    rfl
  · have hrace' : readRaces (byteTaken r { s with agenda := agenda }) = true := hrace
    have hdrawn : (byteTaken r { s with agenda := agenda }).free = s.free + 1 :=
      congrArg (s.free + ·) (if_pos hrace)
    rw [byteRead_of_race hrace, byteRead_of_race hrace', hdrawn, Nat.add_assoc, Nat.add_comm 1]

theorem drawsOf_succ (s : State) (n : Nat) : drawsOf s 1 + drawsOf s n = drawsOf s (n + 1) := by
  unfold drawsOf
  split <;> omega

/-- The first byte step and then the rest of the read. -/
theorem regionRead_byteTaken (a n : Nat) (rest more : List Turn) (s : State) :
    regionRead (a + 1) n more (byteTaken ⟨a, n⟩ { s with agenda := rest }) =
      regionRead a (n + 1) more s := by
  have hfree : s.free + drawsOf s 1 + drawsOf s n = s.free + drawsOf s (n + 1) := by
    rw [Nat.add_assoc, drawsOf_succ]
  have hrest (k : Nat) : byteRead (byteTaken ⟨a, n⟩ { s with agenda := rest }) k (a + 1 + k) =
      byteRead s (k + 1) (a + (k + 1)) := by
    rw [byteRead_byteTaken, Nat.add_right_comm, Nat.add_assoc]
  have hbytes : (s.port.bytes ++ [byteRead s 0 a]) ++ (List.range n).map (fun k =>
        byteRead (byteTaken ⟨a, n⟩ { s with agenda := rest }) k (a + 1 + k)) =
      s.port.bytes ++ (List.range (n + 1)).map fun k => byteRead s k (a + k) := by
    simp only [hrest, List.range_succ_eq_map, List.map_cons, List.map_map, List.append_assoc,
      List.singleton_append]
    rfl
  unfold regionRead
  rw [← hfree, ← hbytes]
  rfl

/-- A reader is free to go on with a region read: it is open and does not wait. -/
structure ReaderFree (s : State) : Prop where
  valid : s.par.valid = true
  uop : s.uop = none
  isOpen : s.br.isOpen = true
  idle : s.br.waiting = false

/-- A turn of a region read in progress is its next byte step. -/
theorem step_conRead {s : State} (h : ReaderFree s) {rest : List Turn} {r : RegionCursor}
    (ha : s.agenda = .conRead :: rest) (hr : s.br.reading = some r) (hlt : r.addr < segBytes s.par) :
    step s = .next (byteTaken r { s with agenda := rest }) := by
  obtain ⟨hturn, htaken⟩ := nextTurn_cons ha
  have hbyte := exec_rdrReadRegion_of_lt (s := { s with agenda := rest }) h.isOpen h.idle hr hlt
  have hsome : s.br.reading.isSome = true := by rw [hr]; rfl
  rw [step_turn h.valid h.uop, hturn, htaken]
  exact (if_pos hsome).trans hbyte

/-- The bytes of a region read, one a turn (R306). -/
theorem run_conReads {s : State} (h : ReaderFree s) {a n : Nat} {more : List Turn}
    (ha : s.agenda = List.replicate n .conRead ++ more) (hr : s.br.reading = regionCursor a n)
    (hend : a + n ≤ segBytes s.par) :
    Host.Core.run Sys2Proof.core n s = .next (regionRead a n more s) := by
  induction n generalizing s a with
  | zero =>
    have hmore : more = s.agenda := ha.symm
    rw [hmore, regionRead_zero hr]
    rfl
  | succ n ih =>
    have hlt : a < segBytes s.par := by omega
    have hrest : a + 1 + n ≤ segBytes s.par := by omega
    have hstep := step_conRead h ha hr hlt
    have hrun := ih (s := byteTaken ⟨a, n⟩ { s with agenda := List.replicate n .conRead ++ more })
      ⟨h.valid, h.uop, h.isOpen, h.idle⟩ rfl rfl hrest
    exact (run_succ hstep n).trans (hrun.trans (by rw [regionRead_byteTaken]))

/-- The reads of a consumer are raced outside its window, with a request outstanding and `CTL` running or the
response not yet taken (20_memory.md R89). -/
theorem readRaces_iff (s : State) :
    readRaces s = true ↔
      s.br.inWindow = false ∧ s.br.latched = true ∧
        ((s.c.halted = false ∧ s.c.phase ≠ .exit) ∨ 0 < s.semResp) := by
  simp [readRaces, ctlStopped, and_assoc]

/-- The header step: a turn of the consumer that issues the read while it is inside no other operation. -/
theorem step_readRegion {s : State} (h : ReaderFree s) (hr : s.br.reading = none) {rest : List Turn}
    (ha : s.agenda = .con .readRegion :: rest) :
    step s = .next (startRegionRead { s with agenda := rest }) := by
  obtain ⟨hturn, htaken⟩ := nextTurn_cons ha
  have hfree : readerBusy s.br = false := (readerBusy_eq_false_iff _).2 ⟨h.idle, hr⟩
  have hexec := exec_rdrReadRegion_of_idle (s := { s with agenda := rest }) h.isOpen h.idle hr
  rw [step_turn h.valid h.uop, hturn, htaken]
  exact (if_neg (Bool.eq_false_iff.1 hfree)).trans hexec

/-- A whole region read in turns of the consumer alone: the header step, then one a byte (R306). -/
theorem run_readRegion {s : State} (h : ReaderFree s) (hr : s.br.reading = none) {base n : Nat}
    (hbase : acquiredBase s.par (headerOfBytes (publishedHeader s)).activeRegion = some base)
    (hn : n = regionReadSize (publishedHeader s)) {more : List Turn}
    (ha : s.agenda = .con .readRegion :: List.replicate n .conRead ++ more)
    (hend : base + n ≤ segBytes s.par) :
    Host.Core.run Sys2Proof.core (n + 1) s =
      .next
        { s with
          agenda := more
          free := s.free + drawsOf s n
          br := { s.br with hdr := publishedHeader s }
          port :=
            { s.port with
              bytes := (List.range n).map fun k => byteRead s k (base + k)
              rdrFault := none } } := by
  have hstart :=
    startRegionRead_of_base (s := { s with agenda := List.replicate n .conRead ++ more }) hbase
  have hstep := (step_readRegion h hr ha).trans (congrArg _ hstart)
  have hrun := run_conReads (s := { s with
      agenda := List.replicate n .conRead ++ more
      br := { s.br with hdr := publishedHeader s, reading := regionCursor base n }
      port := { s.port with bytes := [], rdrFault := none } })
    ⟨h.valid, h.uop, h.isOpen, h.idle⟩ rfl rfl hend
  have hended : { s.br with hdr := publishedHeader s } =
      { s.br with hdr := publishedHeader s, reading := none } := by rw [← hr]
  rw [hended]
  subst hn
  exact (run_succ hstep _).trans hrun

/-- Settles O38: the header step, its run with the byte steps, one byte step, the race, and the fault. -/
theorem rdrReadRegionCompletes : Obligations.RdrReadRegionCompletes := by
  refine ⟨fun s h base n ho hw hr hh hsel hn => ?start,
    fun s r ho hw hr => ⟨fun hlt => ?byte, fun hge => ?beyond⟩,
    readRaces_iff, fun s ho hw hr h₁ h₂ => ?unrecognised⟩
  case start =>
    subst hh
    have hbase := acquiredBase_of_selector hsel
    rw [← regionReadSize_eq] at hn
    refine ⟨?_, fun more hv hu ha hend => ?_⟩
    · rw [exec_rdrReadRegion_of_idle ho hw hr, startRegionRead_of_base hbase, ← hn, regionCursor_eq]
    · refine ⟨_, run_readRegion ⟨hv, hu, ho, hw⟩ hr hbase hn ha hend, by simp, fun k hk => ?_⟩
      rw [List.getElem?_map, List.getElem?_range hk, Option.map_some]
      cases hrace : readRaces s
      · rw [byteRead_of_no_race hrace, if_neg Bool.false_ne_true]
        cases s.seg.read? (base + k) <;> rfl
      · rw [byteRead_of_race hrace, if_pos rfl]
  case byte =>
    refine ⟨byteRead s 0 r.addr, ?_, (byteRead_of_race · 0 r.addr), (byteRead_of_no_race · 0 r.addr)⟩
    rw [exec_rdrReadRegion_of_lt ho hw hr hlt, byteTaken, regionCursor_eq]
    rfl
  case beyond =>
    rw [exec_rdrReadRegion_of_reading ho hw hr, readRegionByte_of_le hge]
    rfl
  case unrecognised =>
    rw [exec_rdrReadRegion_of_idle ho hw hr,
      startRegionRead_of_unrecognised (acquiredBase_of_unrecognised h₁ h₂)]
    rfl

end Sys2Proof.Machine
end

section
/-!
PROOFS. The family of 60_exceptions.md: what each agent's turn may write (O57, the ownership table of R346).
-/

namespace Sys2Proof.Machine

/-! ### The turns of `CON` (45_bridge.md R298 to R306) -/

/-- An operation begun by a reader inside no other writes the reader, its side ports and `SEM.req`. -/
theorem ReaderStep.issued_frame {i : Instr} {s t : State} (h : ReaderStep s i t)
    (hw : s.br.waiting = false) (hr : s.br.reading = none) :
    t = { s with br := t.br, semReq := t.semReq, port := t.port } := by
  cases h with
  | waited _ hw' => cases hw.symm.trans hw'
  | byteRead r hr' => cases hr.symm.trans hr'
  | regionStarted =>
    rcases startRegionRead_cases s with ⟨_, _, he⟩ | ⟨_, he⟩ <;> rw [he]
  | _ => rfl

/-- What a turn that issues an operation of the reader may write. -/
theorem conIssue_frame {op : ReaderOp} {s t : State} (h : conIssue op s = .next t) :
    t = { s with br := t.br, semReq := t.semReq, port := t.port } ∧ s.semReq ≤ t.semReq := by
  cases hb : readerBusy s.br
  · obtain ⟨hw, hr⟩ := (readerBusy_eq_false_iff _).1 hb
    rw [conIssue_of_idle op hw hr] at h
    have hstep := exec_readerStep (by cases op <;> rfl) h
    refine ⟨?_, ((CtlKept.readerOperand op s).trans hstep.ctlKept).semReq⟩
    cases op <;> exact hstep.issued_frame hw hr
  · cases (if_pos hb : conIssue op s = .next s).symm.trans h
    exact ⟨rfl, le_refl _⟩

/-- The wait step writes the reader, its side ports and `SEM.resp` (R300, R302). -/
theorem conWait_frame (s : State) :
    conWait s =
      { s with br := (conWait s).br, semResp := (conWait s).semResp, port := (conWait s).port } ∧
    (conWait s).semResp ≤ s.semResp := by
  cases hw : s.br.waiting
  · rw [conWait_of_idle hw]
    exact ⟨rfl, le_refl _⟩
  · rw [show conWait s = waitStep s from if_pos hw]
    refine ⟨?_, (CtlKept.waitStep s).semResp⟩
    rcases waitStep_cases s with ⟨_, he⟩ | ⟨_, he⟩ <;> rw [he]

theorem exec_rdrReadRegion_of_not_ready {s : State} (h : readerReady s.br = false) :
    exec .rdrReadRegion s = .next s := by
  simp [exec, execRdrReadRegion, h]

/-- A byte step writes the place of the read, the bytes read, and the count of free values drawn (R306). -/
theorem conRead_frame {s t : State} (h : conRead s = .next t) :
    t =
      { s with
        br := { s.br with reading := t.br.reading }
        port := { s.port with bytes := t.port.bytes }
        free := t.free } := by
  cases hr : s.br.reading with
  | none =>
    cases (conRead_of_idle hr).symm.trans h
    rfl
  | some r =>
    rw [conRead_of_reading (by simp [hr])] at h
    cases hready : readerReady s.br
    · cases (exec_rdrReadRegion_of_not_ready hready).symm.trans h
      rfl
    · obtain ⟨ho, hw⟩ := (readerReady_iff _).1 hready
      rw [exec_rdrReadRegion_of_reading ho hw hr] at h
      rcases readRegionByte_cases r s with ⟨_, _, hb⟩ | ⟨_, _, hb⟩ | ⟨_, hb⟩ <;> rw [hb] at h <;>
        cases h <;> rfl

/-! ### What a step of `CTL` leaves, and its ends of the queues and semaphores (R40, R346) -/

/-- `CTL` writes no side port, no cancellation input and nothing of the schedule; it takes requests, blocks and
commands, and puts responses, spent blocks and answers. Where a part is the same by definition, `{}` proves
it. -/
structure CtlOwns (s t : State) : Prop where
  port : t.port = s.port := by rfl
  cancel : t.c.cancel = s.c.cancel := by rfl
  agenda : t.agenda = s.agenda := by rfl
  turnNo : t.turnNo = s.turnNo := by rfl
  segGen : t.segGen = s.segGen := by rfl
  semReq : t.semReq ≤ s.semReq := by exact Nat.le_refl _
  semResp : s.semResp ≤ t.semResp := by exact Nat.le_refl _
  blkq : t.blkq = s.blkq ∨ t.blkq = s.blkq.tail := by exact .inl rfl
  cmdq : t.cmdq = s.cmdq ∨ t.cmdq = s.cmdq.tail := by exact .inl rfl
  pool : ∃ done, t.pool = s.pool ++ done := by exact ⟨[], (List.append_nil _).symm⟩
  rspq : ∃ answers, t.rspq = s.rspq ++ answers := by exact ⟨[], (List.append_nil _).symm⟩

theorem CtlOwns.swapPoll (s : State) : CtlOwns s (swapPoll s) := by
  rcases swapPoll_cases s with ⟨_, he⟩ | ⟨_, _, he⟩ | ⟨_, _, he⟩ <;> rw [he]
  · exact {}
  · exact {}
  · exact { semReq := Nat.sub_le _ _ }

theorem MicroStep.ctlOwns {m : Micro} {s t : State} (h : MicroStep s m t) : CtlOwns s t := by
  cases h with
  | scan u hu => subst hu; exact {}
  | polled => exact .swapPoll s
  | released => exact { semResp := Nat.le_succ _ }
  | _ => exact {}

@[simp] theorem configureRings_rspq (cap : BitVec 33) (cs : List (Fin 4)) (s : State) :
    (configureRings cap cs s).rspq = s.rspq := by
  rw [configureRings_eq]

/-- No command enqueues an answer: that of `GET_RATE` is a step of its own (43_controller_commands.md R223). -/
theorem exec_command_rspq {i : Instr} {s t : State} (hi : isCommand i = true)
    (h : exec i s = .next t) : t.rspq = s.rspq := by
  cases i with
  | run => rcases execRun_cases s with ⟨_, he⟩ | ⟨_, he⟩ <;> cases he.symm.trans h <;> rfl
  | setDepth samples =>
    rcases execSetDepth_cases samples s with ⟨_, he⟩ | ⟨_, _, _, he⟩ <;> cases he.symm.trans h
    · rfl
    · simp [depthSet, widthSet]
  | setSrc channel =>
    rcases execSetSrc_cases channel s with ⟨_, he⟩ | ⟨_, he⟩ <;> cases he.symm.trans h <;> rfl
  | setDelay femtoseconds =>
    rcases execSetDelay_cases femtoseconds s with ⟨_, he⟩ | ⟨_, _, he⟩ <;> cases he.symm.trans h
    · rfl
    · simp [positionSet]
  | setLevel microvolts =>
    rcases execSetLevel_cases microvolts s with ⟨_, he⟩ | ⟨_, he⟩ <;> cases he.symm.trans h
    · rfl
    · simp [levelSet]
  | stop | force | setMode | setRate | setType | getRate => cases h; rfl
  | _ => cases hi

theorem exec_command_ctlOwns {i : Instr} {s t : State} (hi : isCommand i = true)
    (h : exec i s = .next t) : CtlOwns s t := by
  have hrspq := exec_command_rspq hi h
  obtain ⟨hframe, -⟩ := commandsTouchOnlyConfiguration i s t hi h
  rw [hframe]
  exact { rspq := ⟨[], hrspq.trans (List.append_nil _).symm⟩ }

/-- The drain takes at most the word it runs (43_controller_commands.md R210). -/
theorem phaseCmd_ctlOwns {s t : State} (h : phaseCmd s = .next t) : CtlOwns s t := by
  rcases phaseCmd_cases s with ⟨_, he⟩ | ⟨w, q, i, hq, hd, he⟩ | ⟨w, q, hq, _, he⟩ <;> rw [he] at h
  · cases h
    exact {}
  · have hcommand := exec_command_ctlOwns (isCommand_of_decodeCmd hd) h
    have htail : t.cmdq = s.cmdq.tail := by
      obtain ⟨hframe, -⟩ := commandsTouchOnlyConfiguration i _ t (isCommand_of_decodeCmd hd) h
      rw [hframe, hq]
      rfl
    exact { hcommand with cmdq := .inr htail }
  · cases h
    exact { cmdq := .inr (by rw [hq]; rfl) }

/-- `P_WAIT` takes at most the block it holds from then on (44_controller_sequencer.md R242). -/
theorem phaseWait_ctlOwns (s : State) : CtlOwns s (phaseWait s) := by
  unfold phaseWait idle
  split
  · next hq => exact { blkq := .inr (by rw [hq]; rfl) }
  · split <;> exact {}

theorem runPhase_ctlOwns {s t : State} (h : runPhase s = .next t) : CtlOwns s t := by
  have hstep := runPhase_step h
  unfold runPhase at h
  generalize s.c.phase = p at h hstep
  cases hstep with
  | drained | command | unknown => exact phaseCmd_ctlOwns h
  | blockTaken | idleSwap | idle =>
    rw [← Host.Outcome.next.inj h]
    exact phaseWait_ctlOwns s
  | fed u v hu hf =>
    obtain ⟨_, rfl, -⟩ := feedRings_frame hf
    subst hu
    rcases demux_cases s.par.nch { s with c := { s.c with delivered := false } } with
      ⟨_, he⟩ | ⟨_, he⟩ <;> rw [he] <;> exact {}
  | returned => exact { pool := ⟨s.c.blk.toList, rfl⟩ }
  | _ => exact {}

theorem rspWait_ctlOwns (r : Word64) (s : State) : CtlOwns s (rspWait r s) := by
  unfold rspWait
  split
  · exact { rspq := ⟨[r], rfl⟩ }
  · exact {}

theorem ctlStep_ctlOwns {s t : State} (h : ctlStep s = .next t) : CtlOwns s t := by
  rcases ctlStep_cases s with
    ⟨_, hr⟩ | ⟨_, r, _, hr⟩ | ⟨_, _, m, rest, _, hr⟩ | ⟨_, _, _, hr⟩ <;> rw [hr] at h
  · cases h
    exact {}
  · cases h
    exact rspWait_ctlOwns r s
  · exact { (runMicro_step h).ctlOwns with }
  · exact runPhase_ctlOwns h

/-! ### What a step of `CTL` stores in the segment (45_bridge.md R284, R288; 20_memory.md R90) -/

theorem ByUpdate.header {s t : State} (h : ByUpdate CoreUpdate s t) : HeaderKeptOrPublished s t := by
  obtain ⟨u, v, hu, huv, hv⟩ := h
  unfold HeaderKeptOrPublished
  rw [← hu.seg, hv.seg, hv.bw]
  exact huv.header

/-- A micro-step leaves every byte of the regions but the one that a store of `Deliver` names. -/
theorem runMicro_region {m : Micro} {s t : State} (h : runMicro m s = .next t) {a : Nat}
    (ha : hdrBytes ≤ a)
    (hother : ∀ c k b bytes, m = .storeBytes c k (b :: bytes) →
      ∀ base, regionBase s.par s.bw.shadow.activeRegion = some base → a ≠ windowAddr s base c k) :
    t.seg.read? a = s.seg.read? a := by
  cases runMicro_step h with
  | stored c k b bytes =>
    simp only [runMicro] at h
    rcases storeWindowByte_cases c k b s with
      ⟨base, hbase, _, _, hr⟩ | ⟨_, hr⟩ | ⟨_, _, _, hr⟩ <;> rw [hr] at h
    · rw [← Host.Outcome.next.inj h]
      exact Memory.read_write_ne _ _ (hother c k b bytes rfl base hbase)
    · rw [← Host.Outcome.next.inj h]
      rfl
    · cases h
  | swapped => rw [withTodo_seg, swapPublish_seg, read_writeHeader_region _ _ ha]
  | polled => rw [swapPoll_seg]
  | scan u hu => subst hu; rfl
  | _ => rfl

/-- Byte `a` is not where the store that `CTL` takes next, if it takes one, puts its byte. -/
def NotStoredNext (s : State) (a : Nat) : Prop :=
  ∀ c k b bytes work, s.c.todo = .storeBytes c k (b :: bytes) :: work →
    ∀ base, regionBase s.par s.bw.shadow.activeRegion = some base → a ≠ windowAddr s base c k

/-- A step of `CTL` leaves every byte of the regions but the one its next store names. -/
theorem ctlStep_region {s t : State} (h : ctlStep s = .next t) {a : Nat} (ha : hdrBytes ≤ a)
    (hother : NotStoredNext s a) : t.seg.read? a = s.seg.read? a := by
  rcases ctlStep_cases s with
    ⟨_, hr⟩ | ⟨_, r, _, hr⟩ | ⟨_, _, m, rest, ht, hr⟩ | ⟨_, _, _, hr⟩ <;> rw [hr] at h
  · cases h
    rfl
  · cases h
    unfold rspWait
    split <;> rfl
  · refine runMicro_region h ha fun c k b bytes hm => ?_
    exact hother c k b bytes rest (hm ▸ ht)
  · rw [(runPhase_step h).seg]

/-! ### The ownership table (60_exceptions.md R346) -/

/-- Settles O57, agent by agent: each turn is framed by the lemma about it. -/
theorem agentsTouchOnlyWhatTheyOwn : Obligations.AgentsTouchOnlyWhatTheyOwn := by
  intro turn s t h
  cases turn with
  | ctl =>
    obtain ⟨hport, hcancel, hagenda, hturnNo, hsegGen, hreq, hresp, hblkq, hcmdq, hpool, hrspq⟩ :=
      ctlStep_ctlOwns h
    obtain ⟨hbr, huop, -⟩ := ctlStep_ctlFrame h
    have hupdate := ctlStep_update h
    exact ⟨⟨hbr, hport, (hupdate.mono fun _ _ => .core).par, hcancel, huop, hagenda, hturnNo, hsegGen⟩,
      ⟨hreq, hresp, hblkq, hcmdq, hpool, hrspq⟩, hupdate.header, fun _ => ctlStep_region h⟩
  | con op => exact conIssue_frame h
  | conWait => cases h; exact conWait_frame s
  | conRead => exact conRead_frame h
  | src | srcTake | hostCmd | hostTake | hostCancel => cases h; rfl

end Sys2Proof.Machine
end
